-- ==== Sys2Proof/Word.lean ====
section
/-! DEFINITION. The plain number and word types of the J218 model.

A byte is a bit vector, because the line transforms of R172 act on its bits. Everything the manual only
counts or compares (tracks, sectors, LSNs, counters) is a natural number; a temperature or a slope is an
integer. The 256 slots and the 256 job entries are finite index types, so that no slot or entry outside the
part can be named. -/

namespace Sys2Proof

/-- One byte of a record, of a sector's data field, of a line or of the buffer SRAM. -/
abbrev Byte := BitVec 8

/-- The number of one of the 256 buffer slots (R39). -/
abbrev Slot := Fin 256

/-- The number of one of the 256 job-table entries (R42). -/
abbrev JobId := Fin 256

/-- All 256 slot numbers in ascending order. -/
def allSlots : List Slot := (List.range 256).map (Fin.ofNat 256)

/-- All 256 job-table entry numbers in ascending order. -/
def allJobIds : List JobId := (List.range 256).map (Fin.ofNat 256)

end Sys2Proof
end

