-- ==== Sys2Proof/Syntax.lean ====
section
/-! DEFINITION. The commands of the J218: one constructor of `Instr` for each row of spec/opcode_table.json,
with the operands the row's rule gives it.

The rows are of four sorts: the eighteen inbound command frames (their operands are the raw field values of
R200, which the owner's checks read), the other happenings of the link, the events of the mechanism, the
recorder and the timers, and the part's own internal steps. -/

namespace Sys2Proof

/-- A physical sector address (track, sector); `Psa.valid` says which pairs address the surface (R4). -/
structure Psa where
  track  : Nat
  sector : Nat
  deriving DecidableEq, Repr

/-- A remap entry as a map sector stores it (R149): an LSN, or `none` for the mark "retired", with a spare. -/
structure StoredEntry where
  lsn   : Option Nat
  spare : Psa
  deriving DecidableEq, Repr

/-- The content of a data field that carries the map signature (R149), decoded. The manual gives the parts of
a map sector and not their byte layout, so the model carries the parts (assumption 8). -/
structure MapSector where
  number     : Nat
  generation : BitVec 32
  count      : Nat
  entries    : List StoredEntry
  deriving DecidableEq, Repr

/-- The 1,024 bytes a data field delivers (R8): plain bytes that carry no map signature, or the bytes of a map
sector (R149). -/
inductive Field where
  | user (bytes : List Byte)
  | image (m : MapSector)
  deriving DecidableEq, Repr

/-- The read channel's outcome at a sector end (R8): GOOD with the corrected-symbol count and the delivered
bytes, UNCORRECTABLE, or BLANK. -/
inductive ReadOutcome where
  | good (c : Nat) (delivered : Field)
  | uncorrectable
  | blank
  deriving DecidableEq, Repr

/-- The value of a magnet-sense report (Chapter 6.2). -/
inductive Sense where
  | erase
  | write
  | none
  deriving DecidableEq, Repr

/-- The commands the J218 takes: one constructor for each row of spec/opcode_table.json. -/
inductive Instr where
  -- inbound command frames (R189), operands as R200 lays them out
  | status
  | sense
  | configure (readRetries writeRetries vt rt flipTime r wLo wHi killMode : Nat)
  | reset
  | mount (tag : Nat)
  | unmount (tag options : Nat)
  | flushMap (tag : Nat)
  | readMap (options : Nat)
  | read (tag lsn count options : Nat)
  | write (tag lsn count options : Nat)
  | erase (tag lsn count options : Nat)
  | data (tag lsn : Nat) (bytes : List Byte)
  | cancel (tag : Nat)
  | play (pageId lsn lineLen lineCount : Nat)
  | stopPlay
  | setRecorder (invert mirror fill : Nat)
  | setPower (kind b : Nat) (g k thetaRef : Int) (d pmin pmax round : Nat)
  | calcPower (zone tempMode : Nat) (temp : Int) (kind copy : Nat)
  -- other happenings of the link; a byte of a refused frame stands with the level of its parity line
  | refusedFrame (frame : List (Byte × Bool))
  | emptyFrame
  | recordLeavesLane
  | completionEntersQueue
  | replyPlaceHeld
  | hardwareReset (cartridge kill : Bool)
  -- the cartridge, the spindle and the temperature
  | cartridgePresent
  | cartridgeAbsent
  | protectTab (isSet : Bool)
  | inhibitSecondStage
  | ejectButton
  | spindleAtSpeed
  | spindleStopped
  | spinUpTimerExpiry
  | indexTimerExpiry
  | temperatureReading (value : Option Int)
  -- the revolution, the sectors and the requests
  | index
  | cancelTakesEffect (tag : Nat)
  | orphanRemoval
  | sectorMark (header : Option Psa)
  | sectorEnd (outcome : ReadOutcome)
  | mapLoadDecision
  | mountComplete
  | drained
  | flushTakesSlots
  | mapWriteClaimMet
  | streamClaimMet
  | flushSucceeds
  | flushFails
  -- the head
  | seekDone
  | seekFault
  | seekTimerExpiry
  | recalibrationTimerExpiry
  | offTrack
  | focusLost
  | focusRegained
  | refocusTimerExpiry
  -- the magnet
  | magnetSense (value : Sense)
  | flipTimerExpiry
  | settleTimeoutExpiry
  -- the recorder
  | lineRequest
  | pageStart
  | killAsserted
  | killReleased
  | frameLineDroppedAfterReset
  deriving DecidableEq, Repr

end Sys2Proof
end

