-- ==== Sys2Proof/WellFormed.lean ====
section
/-! DEFINITION. Which terms of `Instr` spell a command: every operand lies in the field the record or the event
carries it in (R198, R200 for the frames; R6, R7, R8, R32 for the events). The owner's own checks (ranges that
are refused or clamped) are not made here: a value outside them is a command the part answers. -/

namespace Sys2Proof

/-- A one-byte field. -/
def isU8 (n : Nat) : Bool := decide (n < 256)

/-- A two-byte unsigned field. -/
def isU16 (n : Nat) : Bool := decide (n < 65536)

/-- A three-byte unsigned field, the width of an LSN (R198). -/
def isU24 (n : Nat) : Bool := decide (n < 16777216)

/-- A two-byte signed field, two's complement (R198). -/
def isS16 (n : Int) : Bool := decide (-32768 ≤ n) && decide (n ≤ 32767)

/-- A decoded map sector whose entry list is as long as its count says (R149). -/
def MapSector.wellFormed (m : MapSector) : Bool := decide (m.entries.length = m.count)

/-- A data field holds 1,024 bytes (R8). -/
def Field.wellFormed : Field → Bool
  | .user bytes => decide (bytes.length = 1024)
  | .image m => m.wellFormed

/-- A GOOD outcome carries a corrected-symbol count in 0–16 (R8). -/
def ReadOutcome.wellFormed : ReadOutcome → Bool
  | .good c f => decide (c ≤ 16) && f.wellFormed
  | .uncorrectable => true
  | .blank => true

/-- The operands of a command fit the fields that carry them. -/
def Instr.wellFormed : Instr → Bool
  | .configure a b c d e f g h i =>
      isU8 a && isU8 b && isU8 c && isU8 d && isU8 e && isU8 f && isU8 g && isU8 h && isU8 i
  | .mount tag => isU8 tag
  | .unmount tag options => isU8 tag && isU8 options
  | .flushMap tag => isU8 tag
  | .readMap options => isU8 options
  | .read tag lsn count options => isU8 tag && isU24 lsn && isU8 count && isU8 options
  | .write tag lsn count options => isU8 tag && isU24 lsn && isU8 count && isU8 options
  | .erase tag lsn count options => isU8 tag && isU24 lsn && isU8 count && isU8 options
  | .data tag lsn bytes => isU8 tag && isU24 lsn && decide (bytes.length = 1024)
  | .cancel tag => isU8 tag
  | .play pageId lsn lineLen lineCount => isU8 pageId && isU24 lsn && isU16 lineLen && isU16 lineCount
  | .setRecorder invert mirror fill => isU8 invert && isU8 mirror && isU8 fill
  | .setPower kind b g k thetaRef d pmin pmax round =>
      isU8 kind && isU16 b && isS16 g && isS16 k && isS16 thetaRef && isU8 d && isU16 pmin && isU16 pmax && isU8 round
  | .calcPower zone tempMode temp kind copy =>
      isU8 zone && isU8 tempMode && isS16 temp && isU8 kind && isU8 copy
  | .refusedFrame frame => decide (frame ≠ [])
  | .cancelTakesEffect tag => decide (tag < 16)
  | .sectorEnd outcome => outcome.wellFormed
  | .status | .sense | .reset | .stopPlay | .emptyFrame | .recordLeavesLane | .completionEntersQueue
  | .replyPlaceHeld | .hardwareReset _ _ | .cartridgePresent | .cartridgeAbsent | .protectTab _
  | .inhibitSecondStage | .ejectButton | .spindleAtSpeed | .spindleStopped | .spinUpTimerExpiry
  | .indexTimerExpiry | .temperatureReading _ | .index | .orphanRemoval | .sectorMark _ | .mapLoadDecision
  | .mountComplete | .drained | .flushTakesSlots | .mapWriteClaimMet | .streamClaimMet | .flushSucceeds
  | .flushFails | .seekDone | .seekFault | .seekTimerExpiry | .recalibrationTimerExpiry | .offTrack
  | .focusLost | .focusRegained | .refocusTimerExpiry | .magnetSense _ | .flipTimerExpiry
  | .settleTimeoutExpiry | .lineRequest | .pageStart | .killAsserted | .killReleased
  | .frameLineDroppedAfterReset => true

end Sys2Proof
end

