-- ==== Sys2Proof/Decode.lean ====
section
/-! DEFINITION. The inbound frames of the workstation link as bytes (R189, R198 to R200): the kind codes, the
payload lengths, the reading of a frame as a command and, after it, the writing of a command as a frame.

The opcode table gives no row any bits, so `decodeTableWord` answers `none` for every word (assumption 33). The
commands that travel as frames are read from their bytes by `decodeFrame`. -/

namespace Sys2Proof

/-- The command a table word spells. No row of spec/opcode_table.json has bits, so no word spells one. -/
def decodeTableWord (_nbits _w : Nat) : Option Instr := none

/-- The payload length of an inbound kind code (R189); `none` for a code that is not one of the eighteen. -/
def payloadLength (kind : Nat) : Option Nat :=
  if kind = 0x01 then some 0 else if kind = 0x02 then some 0 else if kind = 0x03 then some 9
  else if kind = 0x04 then some 0 else if kind = 0x10 then some 0 else if kind = 0x11 then some 1
  else if kind = 0x12 then some 0 else if kind = 0x13 then some 1 else if kind = 0x20 then some 5
  else if kind = 0x21 then some 5 else if kind = 0x22 then some 5 else if kind = 0x23 then some 1027
  else if kind = 0x24 then some 0 else if kind = 0x30 then some 8 else if kind = 0x31 then some 0
  else if kind = 0x32 then some 3 else if kind = 0x40 then some 15 else if kind = 0x41 then some 6
  else none

/-- The inbound kind code of a command that travels as a frame (R189). -/
def Instr.kindCode : Instr → Option Nat
  | .status => some 0x01
  | .sense => some 0x02
  | .configure _ _ _ _ _ _ _ _ _ => some 0x03
  | .reset => some 0x04
  | .mount _ => some 0x10
  | .unmount _ _ => some 0x11
  | .flushMap _ => some 0x12
  | .readMap _ => some 0x13
  | .read _ _ _ _ => some 0x20
  | .write _ _ _ _ => some 0x21
  | .erase _ _ _ _ => some 0x22
  | .data _ _ _ => some 0x23
  | .cancel _ => some 0x24
  | .play _ _ _ _ => some 0x30
  | .stopPlay => some 0x31
  | .setRecorder _ _ _ => some 0x32
  | .setPower _ _ _ _ _ _ _ _ _ => some 0x40
  | .calcPower _ _ _ _ _ => some 0x41
  | .refusedFrame _ | .emptyFrame | .recordLeavesLane | .completionEntersQueue | .replyPlaceHeld
  | .hardwareReset _ _ | .cartridgePresent | .cartridgeAbsent | .protectTab _ | .inhibitSecondStage
  | .ejectButton | .spindleAtSpeed | .spindleStopped | .spinUpTimerExpiry | .indexTimerExpiry
  | .temperatureReading _ | .index | .cancelTakesEffect _ | .orphanRemoval | .sectorMark _ | .sectorEnd _
  | .mapLoadDecision | .mountComplete | .drained | .flushTakesSlots | .mapWriteClaimMet | .streamClaimMet
  | .flushSucceeds | .flushFails | .seekDone | .seekFault | .seekTimerExpiry | .recalibrationTimerExpiry
  | .offTrack | .focusLost | .focusRegained | .refocusTimerExpiry | .magnetSense _ | .flipTimerExpiry
  | .settleTimeoutExpiry | .lineRequest | .pageStart | .killAsserted | .killReleased
  | .frameLineDroppedAfterReset => none

/-! ### Multi-byte fields, high byte first (R198) -/

/-- The value of two bytes, high byte first. -/
def be2 (a b : Byte) : Nat := a.toNat * 256 + b.toNat

/-- The value of three bytes, high byte first. -/
def be3 (a b c : Byte) : Nat := a.toNat * 65536 + b.toNat * 256 + c.toNat

/-- A two-byte field read as two's complement (R198). -/
def toS16 (n : Nat) : Int := if n < 32768 then (n : Int) else (n : Int) - 65536

/-- The two-byte two's-complement field of an integer (R198). -/
def ofS16 (i : Int) : Nat := (i % 65536).toNat

/-- One byte of a number: the one with weight 256 to the given power. -/
def byteOf (n power : Nat) : Byte := BitVec.ofNat 8 (n / 256 ^ power)

/-- A one-byte field. -/
def put1 (n : Nat) : List Byte := [byteOf n 0]

/-- A two-byte field, high byte first. -/
def put2 (n : Nat) : List Byte := [byteOf n 1, byteOf n 0]

/-- A three-byte field, high byte first. -/
def put3 (n : Nat) : List Byte := [byteOf n 2, byteOf n 1, byteOf n 0]

/-- A four-byte field, high byte first. -/
def put4 (n : Nat) : List Byte := [byteOf n 3, byteOf n 2, byteOf n 1, byteOf n 0]

/-- The command of a kind code, a tag byte and a payload, field by field as R200 lays the payloads out. -/
def decodePayload (kind tag : Nat) (payload : List Byte) : Option Instr :=
  match kind, payload with
  | 0x01, [] => some .status
  | 0x02, [] => some .sense
  | 0x03, [a, b, c, d, e, f, g, h, i] =>
      some (.configure a.toNat b.toNat c.toNat d.toNat e.toNat f.toNat g.toNat h.toNat i.toNat)
  | 0x04, [] => some .reset
  | 0x10, [] => some (.mount tag)
  | 0x11, [o] => some (.unmount tag o.toNat)
  | 0x12, [] => some (.flushMap tag)
  | 0x13, [o] => some (.readMap o.toNat)
  | 0x20, [a, b, c, n, o] => some (.read tag (be3 a b c) n.toNat o.toNat)
  | 0x21, [a, b, c, n, o] => some (.write tag (be3 a b c) n.toNat o.toNat)
  | 0x22, [a, b, c, n, o] => some (.erase tag (be3 a b c) n.toNat o.toNat)
  | 0x23, a :: b :: c :: bytes => some (.data tag (be3 a b c) bytes)
  | 0x24, [] => some (.cancel tag)
  | 0x30, [i, a, b, c, l1, l0, n1, n0] => some (.play i.toNat (be3 a b c) (be2 l1 l0) (be2 n1 n0))
  | 0x31, [] => some .stopPlay
  | 0x32, [i, m, f] => some (.setRecorder i.toNat m.toNat f.toNat)
  | 0x40, [k, b1, b0, g1, g0, k1, k0, t1, t0, d, p1, p0, q1, q0, r] =>
      some (.setPower k.toNat (be2 b1 b0) (toS16 (be2 g1 g0)) (toS16 (be2 k1 k0)) (toS16 (be2 t1 t0))
        d.toNat (be2 p1 p0) (be2 q1 q0) r.toNat)
  | 0x41, [z, m, t1, t0, k, c] =>
      some (.calcPower z.toNat m.toNat (toS16 (be2 t1 t0)) k.toNat c.toNat)
  | _, _ => none

/-- The command a whole inbound frame spells (R185, R198, R200): four header bytes, a known kind, and exactly
the payload length of that kind, both in the length field and in the bytes. -/
def decodeFrame : List Byte → Option Instr
  | kind :: tag :: hi :: lo :: payload =>
      if payloadLength kind.toNat = some (be2 hi lo) ∧ payload.length = be2 hi lo then
        decodePayload kind.toNat tag.toNat payload
      else none
  | _ => none

/-! ### The frame that carries a command -/

/-- The tag byte a command's frame carries; 0xFF for the untagged kinds, whose tag byte is not examined (R187). -/
def Instr.tagByte : Instr → Nat
  | .mount tag => tag
  | .unmount tag _ => tag
  | .flushMap tag => tag
  | .read tag _ _ _ => tag
  | .write tag _ _ _ => tag
  | .erase tag _ _ _ => tag
  | .data tag _ _ => tag
  | .cancel tag => tag
  | _ => 0xFF

/-- The payload of a command's frame (R200). -/
def Instr.payload : Instr → List Byte
  | .configure a b c d e f g h i =>
      put1 a ++ put1 b ++ put1 c ++ put1 d ++ put1 e ++ put1 f ++ put1 g ++ put1 h ++ put1 i
  | .unmount _ options => put1 options
  | .readMap options => put1 options
  | .read _ lsn count options => put3 lsn ++ put1 count ++ put1 options
  | .write _ lsn count options => put3 lsn ++ put1 count ++ put1 options
  | .erase _ lsn count options => put3 lsn ++ put1 count ++ put1 options
  | .data _ lsn bytes => put3 lsn ++ bytes
  | .play pageId lsn lineLen lineCount => put1 pageId ++ put3 lsn ++ put2 lineLen ++ put2 lineCount
  | .setRecorder invert mirror fill => put1 invert ++ put1 mirror ++ put1 fill
  | .setPower kind b g k thetaRef d pmin pmax round =>
      put1 kind ++ put2 b ++ put2 (ofS16 g) ++ put2 (ofS16 k) ++ put2 (ofS16 thetaRef) ++ put1 d
        ++ put2 pmin ++ put2 pmax ++ put1 round
  | .calcPower zone tempMode temp kind copy =>
      put1 zone ++ put1 tempMode ++ put2 (ofS16 temp) ++ put1 kind ++ put1 copy
  | _ => []

/-- The whole frame of a command that travels as one (R198); `none` for the other rows. -/
def encodeFrame (i : Instr) : Option (List Byte) :=
  i.kindCode.map fun kind => put1 kind ++ put1 i.tagByte ++ put2 i.payload.length ++ i.payload

end Sys2Proof
end

