-- ==== Sys2Proof/Config.lean ====
section
/-! DEFINITION. What the manual leaves open as a value: constants without a body, of which nothing can be
proved, so that a claim about the model holds whatever they are. -/

namespace Sys2Proof

/-- The byte at an offset 0–1,023 of the data field that spells a map sector (R149). The manual gives the parts
of a map sector and neither the map signature's value nor the byte layout, so each byte is a free value
(assumption 8). -/
opaque Config.mapImageByte : MapSector → Nat → Byte

/-- The tag byte of the four-byte header of a PAGE DONE record. R187 gives the tag byte of answers only, and a
PAGE DONE is no answer, so the byte is a free value (assumption 10). -/
opaque Config.pageDoneTag : Byte

end Sys2Proof
end

