-- ==== Sys2Proof/Machine/State.lean ====
section
/-! DEFINITION. The state of the J218: every piece of state its manual names, block by block, as plain data, and
the state right after hardware reset.

What the manual itself derives from other state is computed and not stored: the laser level (R91), ATTN (R191),
whether the magnet is settled (R112), the reservations of requests (R39: a slot of a reservation belongs to one
job or one DATA IN), the claims on the job table (R46), the orphan count (R178), the ready run (R169), the
completion list and the page-done list (one waiting list in the order of composition, R188). -/

namespace Sys2Proof.Machine

/-! ### Names -/

/-- The eight mount states (R14), in the order of R202. -/
inductive Mount where
  | empty | loaded | spinningUp | mapping | ready | unmounting | flushing | spinningDown
  deriving DecidableEq, Repr

/-- The four reasons of the write-inhibit set (R29). -/
inductive Inhibit where
  | tab | mapDamaged | mapWriteFailed | magnetFault
  deriving DecidableEq, Repr

/-- The sixteen condition kinds (R190), in the order of their bits. -/
inductive Condition where
  | resetOccurred | cartridgeInserted | cartridgeRemoved | ejectRequested | spindleFault | headFault | shock
  | magnetFault | mapFull | refreshDropped | refreshFailed | streamDataError | underrun | recorderKill
  | temperatureInvalid | powerLimits
  deriving DecidableEq, Repr

/-- The reasons a DONE may carry (R60), in the order of their codes (R201). -/
inductive Reason where
  | none | seekFault | idNotFound | uncorrectable | spareLimit | noSpare | writeInhibited | magnetFault
  | mapDamaged | mapWriteFailed | mediumRemoved | spindleFault | headFault
  deriving DecidableEq, Repr

/-- The reasons a REFUSED may carry (R189), in the order of their codes. -/
inductive Refused where
  | parity | unknownKind | badLength | tagBusy | noSuchTag | noCartridge | notMounted | busy | unmounting
  | writeInhibited | range | bufferFull | tableFull | badParameter | dataUnexpected | dataDuplicate
  deriving DecidableEq, Repr

/-- A polarity of the bias field. -/
inductive Polarity where
  | erase | write
  deriving DecidableEq, Repr

/-! ### Settings written by CONFIGURE (R195) -/

/-- How the kill input acts (R163). -/
inductive KillMode where
  | level | edge
  deriving DecidableEq, Repr

/-- The nine parameters of CONFIGURE (R104, R112, R163, R195). -/
structure Settings where
  readRetries  : Nat
  writeRetries : Nat
  vt           : Nat
  rt           : Nat
  flipTime     : Nat
  ringSize     : Nat
  wLo          : Nat
  wHi          : Nat
  killMode     : KillMode
  deriving DecidableEq, Repr

/-! ### Chapter 2: the supervisor -/

/-- The mount context (Chapter 2, R20): the MOUNT's tag, which legs have ended, the first reason met. -/
structure MountContext where
  tag       : Nat
  mapLeg    : Bool
  magnetLeg : Bool
  reason    : Option Reason
  deriving DecidableEq, Repr

/-- The unmount context (Chapter 2, R21, R22): the UNMOUNT's tag, or `none` for an untagged unmount, the EJECT
option, and the result recorded so far. -/
structure UnmountContext where
  tag    : Option Nat
  eject  : Bool
  result : Option Reason
  deriving DecidableEq, Repr

/-- Where the second stage of the inhibit rules stands (R30): nothing to do, to be applied at the next index
event, or to be applied at once. -/
inductive SecondStage where
  | idle | atIndex | now
  deriving DecidableEq, Repr

/-- The cartridge and spindle supervisor (Chapter 2). The inhibit set is a list in the order the reasons
entered, because R30 asks which of them entered first. `tabInput` is the level of the protect-tab input. -/
structure Supervisor where
  mount        : Mount
  spindleRun   : Bool
  inhibit      : List Inhibit
  secondStage  : SecondStage
  temperature  : Option Int
  stale        : Bool
  spinUpTimer  : Bool
  indexTimer   : Bool
  mountCtx     : Option MountContext
  unmountCtx   : Option UnmountContext
  tabInput     : Bool
  deriving DecidableEq, Repr

/-! ### Chapter 3: requests, jobs and slots -/

/-- The kinds of request (R35). -/
inductive RequestKind where
  | read | write | erase | mount | unmount | flushMap
  deriving DecidableEq, Repr

/-- The states of a request record (R35, R36). -/
inductive RequestState where
  | opened | cancelling | ended
  deriving DecidableEq, Repr

/-- A request record (R35). `span` is the first LSN and the count, absent for MOUNT, UNMOUNT and FLUSH MAP. -/
structure Request where
  tag          : Nat
  kind         : RequestKind
  span         : Option (Nat × Nat)
  preErased    : Bool
  state        : RequestState
  outstanding  : Nat
  doneCount    : Nat
  failed       : Nat
  blank        : Nat
  reassigned   : Nat
  disturbed    : Nat
  firstFailure : Option (Option Nat × Reason)
  abortReason  : Option Reason
  deriving DecidableEq, Repr

/-- The kinds of job (R43). -/
inductive JobKind where
  | hostRead | hostWrite | hostErase | streamRead | refresh | mapRead | mapWrite
  deriving DecidableEq, Repr

/-- The owner of a job (R43). -/
inductive Owner where
  | tag (t : Nat) | stream | refresh | map
  deriving DecidableEq, Repr

/-- The phases of a job (R44). -/
inductive Phase where
  | held | needRead | needErase | erased | written
  deriving DecidableEq, Repr

/-- Which page a stream sector belongs to (R166, R168): the active page, the pending page, or none (an orphan). -/
inductive Place where
  | active | pending | orphan
  deriving DecidableEq, Repr

/-- A job record (R43). `preErased` is the option of the request a HOST WRITE came from, which gives its first
phase (R44); `page` names the page sector of a STREAM READ (R168). -/
structure Job where
  id          : JobId
  owner       : Owner
  kind        : JobKind
  lsn         : Option Nat
  target      : Psa
  phase       : Phase
  attempts    : Nat
  idFailures  : Nat
  sparesTried : Nat
  slot        : Option Slot
  dataPresent : Bool
  touched     : Bool
  heldBehind  : Option JobId
  preErased   : Bool
  page        : Option (Place × Nat)
  deriving DecidableEq, Repr

/-! ### Chapter 4: the planner -/

/-- The head states (R65), in the order of R202. -/
inductive Head where
  | stopped | unpositioned | seeking | recalibrating | settled | revolving | refocusing
  deriving DecidableEq, Repr

/-- The elevator's direction of travel (R65). -/
inductive Sweep where
  | outward | inward
  deriving DecidableEq, Repr

/-- The actions a plan may place on a sector (R80). -/
inductive Action where
  | erase | write | read | verify | blankCheck
  deriving DecidableEq, Repr

/-- One planned action: its sector, what is done there, and the job it serves (R80). -/
structure Planned where
  sector : Nat
  action : Action
  job    : JobId
  deriving DecidableEq, Repr

/-- A revolution plan (R80): the track, its zone, the mutating polarity, and the actions by sector. -/
structure Plan where
  track    : Nat
  zone     : Nat
  mutating : Option Polarity
  actions  : List Planned
  deriving DecidableEq, Repr

/-- The revolution planner (R65). -/
structure Planner where
  head       : Head
  current    : Option Nat
  target     : Option Nat
  sweep      : Sweep
  failures   : Nat
  seekTimer  : Bool
  recalTimer : Bool
  plan       : Option Plan
  deriving DecidableEq, Repr

/-! ### Chapter 5: the sequencer -/

/-- The open action (R90). `job` becomes `none` when the job leaves the table while its action is open (R81). -/
structure OpenAction where
  sector : Nat
  action : Action
  job    : Option JobId
  gated  : Bool
  deriving DecidableEq, Repr

/-- The sector sequencer (R90); its laser level is `State.laser`. -/
structure Sequencer where
  killLatch    : Bool
  position     : Nat
  openAction   : Option OpenAction
  refocusTimer : Bool
  deriving DecidableEq, Repr

/-- The laser levels (R90). -/
inductive Laser where
  | off | read | erase | write
  deriving DecidableEq, Repr

/-! ### Chapter 6: the bias magnet -/

/-- The magnet states (R112), in the order of R202. -/
inductive MagnetState where
  | unset | toErase | erase | toWrite | write | fault
  deriving DecidableEq, Repr

/-- The bias magnet controller (R112); its flip time is among the settings, and `coil` is `none` for OFF. -/
structure Magnet where
  state         : MagnetState
  coil          : Option Polarity
  flipRunning   : Bool
  flipExpired   : Bool
  settleTimer   : Bool
  senseAgreed   : Bool
  lastSense     : Sense
  deriving DecidableEq, Repr

/-! ### Chapter 7: the laser power calculator -/

/-- The rounding modes (R123). -/
inductive Rounding where
  | nearest | truncate
  deriving DecidableEq, Repr

/-- A coefficient set (R123). -/
structure Coefficients where
  b        : Nat
  g        : Int
  k        : Int
  thetaRef : Int
  d        : Nat
  pmin     : Nat
  pmax     : Nat
  round    : Rounding
  deriving DecidableEq, Repr

/-- A temperature input of a computation (R128): a value or no value, and the stale flag. -/
structure TempInput where
  value : Option Int
  stale : Bool
  deriving DecidableEq, Repr

/-- The key a cached setpoint was computed for (R133). -/
structure CacheKey where
  zone       : Nat
  temp       : TempInput
  generation : BitVec 32
  deriving DecidableEq, Repr

/-- What the calculator holds for one kind of setpoint (R124, R133). -/
structure PowerKind where
  staged        : Coefficients
  active        : Coefficients
  switchPending : Bool
  generation    : BitVec 32
  key           : Option CacheKey
  code          : Nat
  deriving DecidableEq, Repr

/-- The four sticky flags (R135). -/
structure Sticky where
  ovf     : Bool
  limLow  : Bool
  limHigh : Bool
  stale   : Bool
  deriving DecidableEq, Repr

/-- The laser power calculator (Chapter 7). -/
structure Power where
  read   : PowerKind
  erase  : PowerKind
  write  : PowerKind
  sticky : Sticky
  deriving DecidableEq, Repr

/-! ### Chapter 8: the remap table -/

/-- A remap entry (R142): only a PENDING entry has an owner job, and a RETIRED one has no LSN. -/
inductive Entry where
  | pending (lsn : Nat) (spare : Psa) (owner : JobId)
  | active (lsn : Nat) (spare : Psa)
  | retired (spare : Psa)
  deriving DecidableEq, Repr

/-- A table position (R159): an LSN with ACTIVE or PENDING, or the spare of a RETIRED entry. -/
inductive Position where
  | active (lsn : Nat)
  | pending (lsn : Nat)
  | retired (spare : Psa)
  deriving DecidableEq, Repr

/-- The map cursor (R141). -/
inductive Cursor where
  | start
  | after (p : Position)
  | atEnd
  deriving DecidableEq, Repr

/-- The map status (R141), in the order of R201. -/
inductive MapStatus where
  | none | loading | loaded | damaged
  deriving DecidableEq, Repr

/-- The result the load records for one map sector (R150); a GOOD sector without the map signature decodes to
no map sector. -/
inductive LoadResult where
  | good (content : Option MapSector)
  | blank
  | failed
  deriving DecidableEq, Repr

/-- Where one map sector of a flush stands (R154): before the slots are taken; its image in a slot of the flush
reservation, no job yet; its MAP WRITE job in the table; or its recorded result. -/
inductive FlushSector where
  | noSlot
  | waiting (slot : Slot)
  | writing
  | done
  | failed (r : Reason)
  deriving DecidableEq, Repr

/-- The phases of a flush (R154). -/
inductive FlushPhase where
  | waitingForSlots | writing0to15 | writing16
  deriving DecidableEq, Repr

/-- The flush context (R154). `owner` is the FLUSH MAP's tag, or `none` for the unmount. `images` are the sector
images of the snapshot, decoded, as the slots hold them in bytes. -/
structure FlushContext where
  owner   : Option Nat
  phase   : FlushPhase
  sectors : List FlushSector
  images  : List MapSector
  stale   : Bool
  deriving DecidableEq, Repr

/-- The remap table (R141). Entries stand in table order (R143). -/
structure Remap where
  entries    : List Entry
  status     : MapStatus
  dirty      : Bool
  generation : BitVec 32
  fullMark   : Bool
  load       : Option (List (Option LoadResult))
  flush      : Option FlushContext
  cursor     : Cursor
  deriving DecidableEq, Repr

/-! ### Chapter 9: pages, the ring and the recorder port -/

/-- The fill policies (R163). -/
inductive Fill where
  | white | black | repeatLast | abort
  deriving DecidableEq, Repr

/-- The recorder settings (R163). -/
structure RecorderSettings where
  invert : Bool
  mirror : Bool
  fill   : Fill
  deriving DecidableEq, Repr

/-- A page record (R164). -/
structure Page where
  pageId        : Nat
  startLsn      : Nat
  lineLen       : Nat
  lineCount     : Nat
  started       : Bool
  abandoned     : Bool
  lines         : Nat
  fillLines     : Nat
  killedLines   : Nat
  failedSectors : Nat
  lastLine      : Option (List Byte)
  deriving DecidableEq, Repr

/-- A filled ring slot (R166): the page and the page sector it holds. -/
structure Filled where
  place  : Place
  sector : Nat
  slot   : Slot
  deriving DecidableEq, Repr

/-- The stream fetcher and recorder port (R163). The fetching slots of the ring are those of the STREAM READ jobs.
`startTest` says that a page-start test is due (R170). -/
structure Stream where
  active       : Option Page
  pendingPage  : Option Page
  reserved     : Bool
  ringFree     : List Slot
  filled       : List Filled
  fetch        : Option (Place × Nat)
  readPos      : Nat
  staged       : RecorderSettings
  inForce      : RecorderSettings
  idleLen      : Nat
  killLevel    : Bool
  pageReady    : Bool
  startTest    : Bool
  deriving DecidableEq, Repr

/-! ### Chapter 10: the link -/

/-- The outcomes of a DONE (R60), in the order of R201. -/
inductive DoneOutcome where
  | complete | completeWithErrors | cancelled | aborted
  deriving DecidableEq, Repr

/-- The outcomes of a PAGE DONE (R175), in the order of R201. -/
inductive PageOutcome where
  | complete | underrun | killed | stopped | mediumRemoved | spindleFault | headFault
  deriving DecidableEq, Repr

/-- The condition of a page as STATUS reports it (R164, R193). -/
inductive PageCondition where
  | absent | waiting | playing | pending
  deriving DecidableEq, Repr

/-- The values of a STATUS REPORT (R193, R202). -/
structure StatusReport where
  mount       : Mount
  inhibit     : List Inhibit
  head        : Head
  track       : Option Nat
  magnet      : MagnetState
  lastSense   : Sense
  live        : Nat
  jobs        : Nat
  freeSlots   : Nat
  depth       : Nat
  readyRun    : Nat
  activePage  : PageCondition
  pendingPage : PageCondition
  ring        : Bool
  readCode    : Nat
  eraseCode   : Nat
  writeCode   : Nat
  temperature : Option Int
  stale       : Bool
  entries     : Nat
  dirty       : Bool
  sticky      : Sticky
  conditions  : Bool
  deriving DecidableEq, Repr

/-- The values of a MAP REPORT (R158). -/
structure MapReport where
  status     : MapStatus
  generation : BitVec 32
  dirty      : Bool
  count      : Nat
  atEnd      : Bool
  entries    : List Entry
  deriving DecidableEq, Repr

/-- The flags of one computation (R132). -/
structure Flags where
  ovf      : Bool
  limLow   : Bool
  limHigh  : Bool
  stale    : Bool
  deadband : Bool
  deriving DecidableEq, Repr

/-- The counters of a DONE (R59, R201). -/
structure Counters where
  doneCount  : Nat
  failed     : Nat
  blank      : Nat
  reassigned : Nat
  disturbed  : Nat
  deriving DecidableEq, Repr

/-- The outbound records (R189, R201). A DATA IN names the slot that stays reserved until it has left (R62). -/
inductive Record where
  | taken (tag kind clampSet : Nat)
  | refused (tag : Nat) (reason : Refused) (kind : Nat)
  | done (tag : Nat) (outcome : DoneOutcome) (reason : Reason) (counters : Counters) (firstFailed : Option Nat)
  | dataIn (tag lsn : Nat) (blank : Bool) (c : Nat) (slot : Slot) (bytes : List Byte)
  | pageDone (pageId : Nat) (outcome : PageOutcome) (lines fillLines killedLines failedSectors : Nat)
  | statusReport (r : StatusReport)
  | senseReport (conditions : List Condition) (sticky : Sticky)
  | mapReport (r : MapReport)
  | calcReport (code : Nat) (acc : Int) (flags : Flags)
  deriving DecidableEq, Repr

/-- The link port (R186, R188, R197): the occupied places oldest first, whether a place is held for a reply, the
composed records without a place in the order of their composition, whether the port still waits for the
inbound frame line to drop after a hardware reset, and the frames the workstation offers whose first byte the port
gives no take yet, oldest first (the inbound hold of R186; assumption 4). -/
structure Link where
  occupied  : List Record
  held      : Bool
  waiting   : List Record
  frameWait : Bool
  offered   : List Instr
  deriving DecidableEq, Repr

/-- What has left the part at its boundaries, apart from levels held in State: orders to the mechanism, the data
fields written to the medium (R96), lines and PAGE END pulses to the recorder, records to the workstation. -/
inductive Emission where
  | eject
  | seek (track : Nat)
  | recalibrate
  | data (target : Psa) (bytes : List Byte)
  | line (bytes : List Byte)
  | pageEnd
  | sent (r : Record)
  deriving DecidableEq, Repr

/-! ### The whole part -/

/-- The buffer SRAM (Chapter 10.8): pairs of an address and a byte, addresses strictly rising, no byte listed that
an unlisted address reads as. -/
abbrev Memory := List Host.Cell

/-- The state of the J218, block by block. `emitted` is the model's own record of what has left the part, oldest
first, and `pending` the queue of the commands that are waiting, front first. -/
structure State where
  sup        : Supervisor
  cfg        : Settings
  requests   : List Request
  jobs       : List Job
  pool       : List Slot
  sram       : Memory
  planner    : Planner
  seq        : Sequencer
  magnet     : Magnet
  power      : Power
  remap      : Remap
  stream     : Stream
  link       : Link
  conditions : List Condition
  emitted    : List Emission
  pending    : List Instr
  deriving DecidableEq, Repr

/-! ### Why a step may stop -/

/-- Why the machine stops with a fault. The manual gives every command an effect in every state, so there is no
fault: nothing raises one, and the type has no constructor. -/
inductive Fault where
  deriving DecidableEq, Repr

/-- Why a command has no meaning. `notModelled` is raised by an arm of `exec` whose row has no meaning yet; no arm
is in that case. Raising it would be safe: the run stops. -/
inductive Refusal where
  | notModelled (mnemonic : String)
  deriving DecidableEq, Repr

/-! ### One updater for each block -/

namespace State

def withSup (s : State) (x : Supervisor) : State := { s with sup := x }
def withCfg (s : State) (x : Settings) : State := { s with cfg := x }
def withRequests (s : State) (x : List Request) : State := { s with requests := x }
def withJobs (s : State) (x : List Job) : State := { s with jobs := x }
def withPool (s : State) (x : List Slot) : State := { s with pool := x }
def withSram (s : State) (x : Memory) : State := { s with sram := x }
def withPlanner (s : State) (x : Planner) : State := { s with planner := x }
def withSeq (s : State) (x : Sequencer) : State := { s with seq := x }
def withMagnet (s : State) (x : Magnet) : State := { s with magnet := x }
def withPower (s : State) (x : Power) : State := { s with power := x }
def withRemap (s : State) (x : Remap) : State := { s with remap := x }
def withStream (s : State) (x : Stream) : State := { s with stream := x }
def withLink (s : State) (x : Link) : State := { s with link := x }
def withConditions (s : State) (x : List Condition) : State := { s with conditions := x }
def withEmitted (s : State) (x : List Emission) : State := { s with emitted := x }
def withPending (s : State) (x : List Instr) : State := { s with pending := x }

end State

/-! ### Hardware reset -/

/-- The nine parameters after hardware reset (R195). -/
def Settings.reset : Settings :=
  { readRetries := 3, writeRetries := 2, vt := 4, rt := 12, flipTime := 10, ringSize := 32, wLo := 8, wHi := 24,
    killMode := .level }

/-- The supervisor after hardware reset with no cartridge in the drive (R33). -/
def Supervisor.reset : Supervisor :=
  { mount := .empty, spindleRun := false, inhibit := [], secondStage := .idle, temperature := none, stale := false,
    spinUpTimer := false, indexTimer := false, mountCtx := none, unmountCtx := none, tabInput := false }

/-- The planner after hardware reset (R88). -/
def Planner.reset : Planner :=
  { head := .stopped, current := none, target := none, sweep := .outward, failures := 0, seekTimer := false,
    recalTimer := false, plan := none }

/-- The sequencer after hardware reset (R110). -/
def Sequencer.reset : Sequencer :=
  { killLatch := false, position := 0, openAction := none, refocusTimer := false }

/-- The magnet controller after hardware reset (R119). -/
def Magnet.reset : Magnet :=
  { state := .unset, coil := none, flipRunning := false, flipExpired := false, settleTimer := false,
    senseAgreed := false, lastSense := .none }

/-- The default READ set (R139). -/
def Coefficients.readDefault : Coefficients :=
  { b := 96, g := 0, k := 0, thetaRef := 100, d := 4, pmin := 40, pmax := 160, round := .nearest }

/-- The default ERASE set (R139). -/
def Coefficients.eraseDefault : Coefficients :=
  { b := 480, g := 256, k := -64, thetaRef := 100, d := 4, pmin := 240, pmax := 880, round := .nearest }

/-- The default WRITE set (R139). -/
def Coefficients.writeDefault : Coefficients :=
  { b := 520, g := 320, k := -80, thetaRef := 100, d := 4, pmin := 240, pmax := 960, round := .nearest }

/-- What the calculator holds for a kind after hardware reset: both copies the default set, no switch pending,
generation 0, no key, the code in force at Pmin (R133, R139). -/
def PowerKind.reset (c : Coefficients) : PowerKind :=
  { staged := c, active := c, switchPending := false, generation := 0, key := none, code := c.pmin }

/-- No sticky flag set. -/
def Sticky.clear : Sticky := { ovf := false, limLow := false, limHigh := false, stale := false }

/-- The calculator after hardware reset (R139). -/
def Power.reset : Power :=
  { read := .reset .readDefault, erase := .reset .eraseDefault, write := .reset .writeDefault, sticky := .clear }

/-- The remap table after hardware reset (R161). -/
def Remap.reset : Remap :=
  { entries := [], status := .none, dirty := false, generation := 0, fullMark := false, load := none, flush := none,
    cursor := .start }

/-- Invert off, mirror off, fill WHITE (R163). -/
def RecorderSettings.reset : RecorderSettings := { invert := false, mirror := false, fill := .white }

/-- The stream fetcher and recorder port after hardware reset with the kill input released (R182). -/
def Stream.reset : Stream :=
  { active := none, pendingPage := none, reserved := false, ringFree := [], filled := [], fetch := none, readPos := 0,
    staged := .reset, inForce := .reset, idleLen := 16, killLevel := false, pageReady := false, startTest := false }

/-- The link port after hardware reset: an empty queue, no place held, waiting for the frame line to drop, no frame
offered (R197). -/
def Link.reset : Link := { occupied := [], held := false, waiting := [], frameWait := true, offered := [] }

/-- The J218 right after hardware reset, with no cartridge present, the kill input released and the protect-tab
input clear (assumption 5), the buffer SRAM unwritten (assumption 6), and no command waiting. -/
def State.reset : State :=
  { sup := .reset, cfg := .reset, requests := [], jobs := [], pool := allSlots, sram := [], planner := .reset,
    seq := .reset, magnet := .reset, power := .reset, remap := .reset, stream := .reset, link := .reset,
    conditions := [.resetOccurred], emitted := [], pending := [] }

end Sys2Proof.Machine
end

