-- ==== Sys2Proof/Machine/Geometry.lean ====
section
/-! DEFINITION. Chapter 1: zones, tracks and sectors, the classes of physical addresses, the home translation and
the classification of a decoded header. -/

namespace Sys2Proof.Machine

/-- The number of the map track (R1). -/
def mapTrack : Nat := 19200

/-- The number of LSNs, one more than the greatest (R9). -/
def lsnEnd : Nat := 464128

/-- The zone of a track; the map track takes the geometry of zone 15 (R1). -/
def trackZone (t : Nat) : Nat := if t = mapTrack then 15 else t / 1200

/-- S(z), the sectors of each track of a zone (R2). -/
def zoneSectors (z : Nat) : Nat := 17 + z

/-- The sectors of a track (R2). -/
def trackSectors (t : Nat) : Nat := zoneSectors (trackZone t)

end Sys2Proof.Machine

namespace Sys2Proof

open Machine in
/-- Whether a pair addresses the surface (R4). -/
def Psa.valid (p : Psa) : Bool := decide (p.track ≤ mapTrack) && decide (p.sector < trackSectors p.track)

/-- "Precedes" in the order of R5: by track, then by sector. -/
def Psa.precedes (p q : Psa) : Bool := decide (p.track < q.track ∨ (p.track = q.track ∧ p.sector < q.sector))

/-- The four classes of a valid PSA (R4). -/
inductive PsaClass where
  | user | spare | map | mapUnused
  deriving DecidableEq, Repr

open Machine in
/-- The class of a PSA, `none` where it is not valid (R4). -/
def Psa.cls (p : Psa) : Option PsaClass :=
  if p.valid then
    if p.track = mapTrack then (if p.sector ≤ 16 then some .map else some .mapUnused)
    else if p.track % 1200 < 1184 then some .user else some .spare
  else none

end Sys2Proof

namespace Sys2Proof.Machine

/-- C(z), the sectors on one track of every zone inward of z (R10). -/
def zoneColumn (z : Nat) : Nat := 17 * z + z * (z - 1) / 2

/-- B(z), the first LSN carried by zone z (R10). -/
def zoneBase (z : Nat) : Nat := 1184 * zoneColumn z

/-- The zone of an LSN: the largest z in 0–15 with B(z) ≤ LSN (R11 step 1). -/
def lsnZone (lsn : Nat) : Nat := (List.range 16).foldl (fun z y => if zoneBase y ≤ lsn then y else z) 0

/-- The home PSA of an LSN (R11). -/
def home (lsn : Nat) : Psa :=
  let z := lsnZone lsn
  let o := lsn - zoneBase z
  { track := 1200 * z + o / zoneSectors z, sector := o % zoneSectors z }

/-- The LSN whose home a PSA of class USER is (R11, last paragraph). -/
def homeInverse (p : Psa) : Nat :=
  let z := trackZone p.track
  zoneBase z + (p.track - 1200 * z) * zoneSectors z + p.sector

/-- The target of the job of map sector k (R12). -/
def mapPsa (k : Nat) : Psa := { track := mapTrack, sector := k }

/-- Whether a span of LSNs is in range (R9). -/
def spanInRange (first count : Nat) : Bool := decide (first + count ≤ lsnEnd)

/-- The sectors of a zone's spare band in the order of R5 (R3). -/
def spareBand (z : Nat) : List Psa :=
  (List.range 16).flatMap fun t =>
    (List.range (zoneSectors z)).map fun k => { track := 1200 * z + 1184 + t, sector := k }

/-- The order in which the spare bands are searched for an LSN of zone z (R145 step 2). -/
def bandOrder (z : Nat) : List Nat :=
  z :: (List.range 16).flatMap fun d =>
    (if z + (d + 1) ≤ 15 then [z + (d + 1)] else []) ++ (if d + 1 ≤ z then [z - (d + 1)] else [])

/-- The three results of R7. -/
inductive Classified where
  | matches | otherTrack | idError
  deriving DecidableEq, Repr

/-- The classification of a decoded header against the track and the sector whose action is due (R7). -/
def classify (header : Option Psa) (t k : Nat) : Classified :=
  match header with
  | none => .idError
  | some p =>
      if p.valid then
        if p.track = t then (if p.sector = k then .matches else .idError) else .otherTrack
      else .idError

end Sys2Proof.Machine
end

