-- ==== Sys2Proof/Machine/Ops.lean ====
section
/-! DEFINITION. The named operations over the shared state: the buffer SRAM, the slot pool, the condition set, the
outbound lane, what leaves the part, and the views the manual derives from other state. -/

namespace Sys2Proof.Machine

/-! ### The buffer SRAM (Chapter 10.8) -/

/-- The bytes of the buffer SRAM. -/
def sramSize : Nat := 262144

/-- What a byte that nothing has written reads as (assumption 6). -/
def unwritten : Byte := 0

/-- The canonical form: addresses strictly rising and inside the SRAM, no byte listed that an unlisted address
reads as. -/
abbrev Memory.wf (m : Memory) : Prop :=
  m.Pairwise (fun a b => a.1 < b.1) ∧ ∀ c ∈ m, c.1 < sramSize ∧ c.2 ≠ unwritten

/-- The byte at an address. -/
def Memory.read (m : Memory) (a : Nat) : Byte :=
  match m.find? (fun c => c.1 == a) with
  | some c => c.2
  | none => unwritten

/-- The first address of a slot (Chapter 10.8). -/
def slotBase (slot : Slot) : Nat := 1024 * slot.val

/-- The cells of a block of bytes from an address on, without those an unlisted address stands for. -/
def blockCells (base : Nat) (bytes : List Byte) : Memory :=
  ((bytes.take 1024).zipIdx.map fun p => (base + p.2, p.1)).filter fun c => decide (c.2 ≠ unwritten)

/-- The SRAM with a slot's 1,024 bytes replaced; bytes beyond the list are unwritten ones. -/
def Memory.writeSlot (m : Memory) (slot : Slot) (bytes : List Byte) : Memory :=
  m.filter (fun c => decide (c.1 < slotBase slot)) ++ blockCells (slotBase slot) bytes
    ++ m.filter (fun c => decide (slotBase slot + 1024 ≤ c.1))

/-- The 1,024 bytes of a slot. -/
def Memory.readSlot (m : Memory) (slot : Slot) : List Byte :=
  (List.range 1024).map fun i => m.read (slotBase slot + i)

/-- A data field's worth of zero bytes. -/
def zeroBytes : List Byte := List.replicate 1024 0

/-- The 1,024 bytes a data field delivers (R8). -/
def fieldBytes : Field → List Byte
  | .user bs => bs
  | .image m => (List.range 1024).map (Config.mapImageByte m)

/-- The map sector a data field carries, `none` without the map signature (R149). -/
def fieldMapSector : Field → Option MapSector
  | .user _ => none
  | .image m => some m

/-- The bytes of a slot. -/
def State.slotBytes (s : State) (slot : Slot) : List Byte := s.sram.readSlot slot

/-- The state with a slot's bytes replaced. -/
def State.fillSlot (slot : Slot) (bytes : List Byte) (s : State) : State :=
  s.withSram (s.sram.writeSlot slot bytes)

/-! ### The slot pool (R39 to R41) -/

/-- Slots go to the free pool in the order they return (R40). -/
def State.returnSlots (slots : List Slot) (s : State) : State := s.withPool (s.pool ++ slots)

/-- A job's slot, if it has one, returns to the free pool. -/
def State.returnSlot (slot : Option Slot) (s : State) : State := s.returnSlots slot.toList

/-- Whether a flush waits for its 17 slots (R40). -/
def State.flushWaits (s : State) : Bool :=
  match s.remap.flush with
  | some f => decide (f.phase = .waitingForSlots)
  | none => false

/-- The available slot count (R40). -/
def State.available (s : State) : Nat := if s.flushWaits then s.pool.length - 17 else s.pool.length

/-! ### The condition set (R190, R191) -/

/-- Raising a condition adds it unless it is present (R191). -/
def State.raise (c : Condition) (s : State) : State :=
  if c ∈ s.conditions then s else s.withConditions (s.conditions ++ [c])

/-- ATTN is asserted while the condition set holds a condition (R191). -/
def State.attn (s : State) : Bool := !s.conditions.isEmpty

/-! ### What leaves the part -/

/-- An order, a pulse, a line or a record leaves the part. -/
def State.emit (e : Emission) (s : State) : State := s.withEmitted (s.emitted ++ [e])

/-! ### The outbound lane (R186 to R188) -/

/-- The places of the outbound queue (R186). -/
def queuePlaces : Nat := 32

/-- The places neither occupied nor held (R186). -/
def Link.free (l : Link) : Nat := queuePlaces - l.occupied.length - (if l.held then 1 else 0)

/-- A composed record enters the queue at once where a place is free and both lists are empty; otherwise it joins
its list (R62, R181, R188). -/
def State.compose (r : Record) (s : State) : State :=
  if s.link.waiting = [] ∧ 0 < s.link.free then
    s.withLink { s.link with occupied := s.link.occupied ++ [r] }
  else s.withLink { s.link with waiting := s.link.waiting ++ [r] }

/-- The reply to an inbound frame enters the queue in the held place (R186). -/
def State.reply (r : Record) (s : State) : State :=
  s.withLink { s.link with occupied := s.link.occupied ++ [r], held := false }

/-- A frame that is answered by no record frees its held place at the arrival (R186). -/
def State.noReply (s : State) : State := s.withLink { s.link with held := false }

/-- Whether the port gives take to the first byte of a frame: it holds a reply place (R184) and no longer waits for
the frame line to drop after a hardware reset (R197). -/
def Link.accepting (l : Link) : Bool := l.held && !l.frameWait

/-- The records on the completion list (R62): DATA IN and DONE without a place. -/
def State.completionList (s : State) : List Record :=
  s.link.waiting.filter fun r => match r with | .dataIn .. => true | .done .. => true | _ => false

/-- The records on the page-done list (R181). -/
def State.pageDoneList (s : State) : List Record :=
  s.link.waiting.filter fun r => match r with | .pageDone .. => true | _ => false

/-- Whether a record is a DATA IN of a tag. -/
def Record.isDataIn (tag : Nat) : Record → Bool
  | .dataIn t .. => t == tag
  | _ => false

/-- Whether a DATA IN of the tag has not yet left the lane (R58). -/
def State.unsentData (tag : Nat) (s : State) : Bool :=
  (s.link.occupied ++ s.link.waiting).any (Record.isDataIn tag)

/-! ### The mount state (R14) -/

/-- READY, UNMOUNTING and FLUSHING are the mounted states (R14). -/
def Mount.mounted : Mount → Bool
  | .ready | .unmounting | .flushing => true
  | _ => false

/-- The states with the spindle ordered to run (R14). -/
def Mount.runs : Mount → Bool
  | .spinningUp | .mapping | .ready | .unmounting | .flushing => true
  | _ => false

/-- The states in which the index timer runs (R14, R26). -/
def Mount.indexed : Mount → Bool
  | .mapping | .ready | .unmounting | .flushing => true
  | _ => false

/-- The mount state changes; the spindle order follows from it (R14). -/
def State.setMount (m : Mount) (s : State) : State :=
  s.withSup { s.sup with mount := m, spindleRun := m.runs }

/-! ### The magnet as the other blocks read it (R112) -/

/-- The polarity the magnet is settled in, if any (R112). -/
def Magnet.settled (m : Magnet) : Option Polarity :=
  match m.state with
  | .erase => some .erase
  | .write => some .write
  | _ => none

/-- The polarity a flip in progress moves toward, if any (R112). -/
def Magnet.movingToward (m : Magnet) : Option Polarity :=
  match m.state with
  | .toErase => some .erase
  | .toWrite => some .write
  | _ => none

/-- The other polarity. -/
def Polarity.other : Polarity → Polarity
  | .erase => .write
  | .write => .erase

/-! ### The laser level (R91) -/

/-- The laser level follows the spindle, the kill latch and the open action (R91). -/
def State.laser (s : State) : Laser :=
  if !s.sup.mount.indexed || s.seq.killLatch then .off
  else
    match s.seq.openAction with
    | some o =>
        if o.gated then
          match o.action with
          | .erase => .erase
          | .write => .write
          | _ => .read
        else .read
    | none => .read

end Sys2Proof.Machine
end

