-- ==== Sys2Proof/Machine/Operands.lean ====
section
/-! DEFINITION. What the fields of the inbound records mean: enumerated codes (R199, R200), the tag check (R36), and
the clamping of CONFIGURE (R195) and SET POWER (R126) with their clamp sets (R201). -/

namespace Sys2Proof.Machine

/-- Whether a tag byte is a tag, 0–15 (R36). -/
def tagValid (tag : Nat) : Bool := decide (tag < 16)

/-- Bit 0 of an options byte (R199): EJECT of UNMOUNT, RESTART of READ MAP. -/
def optionBit (options : Nat) : Bool := decide (options % 2 = 1)

/-- A switch byte of SET RECORDER: 0x00 off, 0x01 on (R200). -/
def switchOf (n : Nat) : Option Bool :=
  if n = 0 then some false else if n = 1 then some true else none

/-- A fill policy byte of SET RECORDER (R200). -/
def fillOf (n : Nat) : Option Fill :=
  if n = 0 then some .white else if n = 1 then some .black else if n = 2 then some .repeatLast
  else if n = 3 then some .abort else none

/-- The three kinds of coefficient set (R123). -/
inductive SetKind where
  | read | erase | write
  deriving DecidableEq, Repr

/-- A kind byte of SET POWER and CALC (R200). -/
def setKindOf (n : Nat) : Option SetKind :=
  if n = 0 then some .read else if n = 1 then some .erase else if n = 2 then some .write else none

/-- A round byte of SET POWER (R200). -/
def roundingOf (n : Nat) : Option Rounding :=
  if n = 0 then some .nearest else if n = 1 then some .truncate else none

/-- A copy byte of CALC: `false` ACTIVE, `true` STAGED (R200). -/
def copyOf (n : Nat) : Option Bool :=
  if n = 0 then some false else if n = 1 then some true else none

/-- A value brought into a range. -/
def clampNat (lo hi n : Nat) : Nat := max lo (min hi n)

/-- An integer brought into a range. -/
def clampInt (lo hi n : Int) : Int := max lo (min hi n)

/-- The set field whose bits are given, bit 0 first (R198). -/
def bitsToNat : List Bool → Nat
  | [] => 0
  | b :: bs => (if b then 1 else 0) + 2 * bitsToNat bs

/-- The nine parameters a CONFIGURE writes: each value clamped in the order of R195, a later range depending on
the clamped earlier values. -/
def configured (readRetries writeRetries vt rt flipTime r wLo wHi killMode : Nat) : Settings :=
  let vt' := clampNat 0 16 vt
  let r' := clampNat 8 128 r
  let lo' := clampNat 1 (r' - 1) wLo
  { readRetries := clampNat 0 15 readRetries
    writeRetries := clampNat 0 7 writeRetries
    vt := vt'
    rt := clampNat vt' 16 rt
    flipTime := clampNat 2 16 flipTime
    ringSize := r'
    wLo := lo'
    wHi := clampNat (lo' + 1) r' wHi
    killMode := if killMode = 0 then .level else .edge }

/-- The clamp set of a CONFIGURE: one bit for each parameter whose received value differs from the value written
(R195). -/
def configureClamps (readRetries writeRetries vt rt flipTime r wLo wHi killMode : Nat) : Nat :=
  let c := configured readRetries writeRetries vt rt flipTime r wLo wHi killMode
  bitsToNat
    [c.readRetries != readRetries, c.writeRetries != writeRetries, c.vt != vt, c.rt != rt, c.flipTime != flipTime,
     c.ringSize != r, c.wLo != wLo, c.wHi != wHi, decide (1 < killMode)]

/-- The coefficient set a SET POWER writes: B, θref, D, Pmin and Pmax clamped (R126). -/
def clampedSet (b : Nat) (g k thetaRef : Int) (d pmin pmax : Nat) (round : Rounding) : Coefficients :=
  { b := clampNat 0 1023 b, g := g, k := k, thetaRef := clampInt (-160) 500 thetaRef, d := clampNat 0 15 d,
    pmin := clampNat 0 1023 pmin, pmax := clampNat 0 1023 pmax, round := round }

/-- The clamp set of a SET POWER (R126, R201). -/
def setPowerClamps (b : Nat) (thetaRef : Int) (d pmin pmax : Nat) : Nat :=
  bitsToNat
    [clampNat 0 1023 b != b, clampInt (-160) 500 thetaRef != thetaRef, clampNat 0 15 d != d,
     clampNat 0 1023 pmin != pmin, clampNat 0 1023 pmax != pmax]

/-- The position of an element in a list of names: its code where the codes count from 0. -/
def codeIn {α : Type} [DecidableEq α] (names : List α) (x : α) : Nat := names.idxOf x

/-- The bits of a set over a list of names, bit 0 the first name. -/
def setBits {α : Type} [DecidableEq α] (names members : List α) : Nat :=
  bitsToNat (names.map fun n => decide (n ∈ members))

end Sys2Proof.Machine
end

