-- ==== Sys2Proof/Machine/Flags.lean ====
section
/-! DEFINITION. The setpoint computation with its flags (section 7.3), the setpoint cache, the switch of a
coefficient set and the sticky flags (Chapter 7). -/

namespace Sys2Proof.Machine

/-! ### The computation (R128 to R132) -/

/-- The result of a computation: the code, the accumulator before scaling, and the flags. -/
structure Calc where
  code  : Nat
  acc   : Int
  flags : Flags
  deriving DecidableEq, Repr

/-- The greatest value of the 24-bit accumulator (R130). -/
def accMax : Int := 8388607

/-- The least value of the 24-bit accumulator (R130). -/
def accMin : Int := -8388608

/-- One checked addition: the exact sum, or the limit on the addend's side with OVF (R130). -/
def satAdd (acc addend : Int) : Int × Bool :=
  let sum := acc + addend
  if accMax < sum then (accMax, true) else if sum < accMin then (accMin, true) else (sum, false)

/-- The quotient by 256, rounded by the mode: to the nearest integer with ties to even, or toward zero (R131). -/
def scaled (mode : Rounding) (acc : Int) : Int :=
  match mode with
  | .truncate => Int.tdiv acc 256
  | .nearest =>
      let q := acc / 256
      let r := acc % 256
      if r < 128 then q else if 128 < r then q + 1 else if q % 2 = 0 then q else q + 1

/-- Whether the temperature input flags STALE (R128): a stale value, or no value. -/
def TempInput.flagsStale (t : TempInput) : Bool := t.stale || t.value.isNone

/-- Stage 1: the temperature delta and whether the deadband caught it (R128, R129). -/
def tempDelta (c : Coefficients) (t : TempInput) : Int × Bool :=
  let delta := t.value.getD c.thetaRef - c.thetaRef
  if delta.natAbs ≤ c.d then (0, true) else (delta, false)

/-- Stage 2: the accumulator and OVF (R130). -/
def accumulate (c : Coefficients) (zone : Nat) (delta : Int) : Int × Bool :=
  let a := satAdd ((c.b : Int) * 256) (c.g * (zone : Int))
  let b := satAdd a.1 (c.k * delta)
  (b.1, a.2 || b.2)

/-- One computation of a setpoint (section 7.3). -/
def compute (c : Coefficients) (zone : Nat) (t : TempInput) : Calc :=
  let d := tempDelta c t
  let a := accumulate c zone d.1
  let q := scaled c.round a.1
  let low := decide (q < (c.pmin : Int))
  let high := !low && decide ((c.pmax : Int) < q)
  { code := if low then c.pmin else if high then c.pmax else q.toNat
    acc := a.1
    flags := { ovf := a.2, limLow := low, limHigh := high, stale := t.flagsStale, deadband := d.2 } }

/-! ### Kinds -/

/-- What the calculator holds for a kind. -/
def Power.get (p : Power) : SetKind → PowerKind
  | .read => p.read
  | .erase => p.erase
  | .write => p.write

/-- The calculator with what it holds for one kind replaced. -/
def Power.set (p : Power) (k : SetKind) (x : PowerKind) : Power :=
  match k with
  | .read => { p with read := x }
  | .erase => { p with erase := x }
  | .write => { p with write := x }

/-- The calculator with what it holds for each kind changed by one function. -/
def Power.mapKinds (f : PowerKind → PowerKind) (p : Power) : Power :=
  { p with read := f p.read, erase := f p.erase, write := f p.write }

/-- A staged copy is replaced and a switch marked pending (R126). -/
def PowerKind.stage (c : Coefficients) (x : PowerKind) : PowerKind := { x with staged := c, switchPending := true }

/-- The switch of R127, only where it is pending: the staged copy becomes active, the generation rises, and the
code in force is brought into the new limits. -/
def PowerKind.applySwitch (x : PowerKind) : PowerKind :=
  if x.switchPending then
    { x with active := x.staged, switchPending := false, generation := x.generation + 1,
             code := clampNat x.staged.pmin x.staged.pmax x.code }
  else x

/-- The supervisor's temperature as the input of a computation (R128). -/
def State.tempInput (s : State) : TempInput := { value := s.sup.temperature, stale := s.sup.stale }

/-- The sticky flags with those a computation raised (R135). -/
def Sticky.join (y : Sticky) (f : Flags) : Sticky :=
  { ovf := y.ovf || f.ovf, limLow := y.limLow || f.limLow, limHigh := y.limHigh || f.limHigh, stale := y.stale || f.stale }

/-- The key of a kind for a zone and a temperature (R133, R134). -/
def PowerKind.keyFor (x : PowerKind) (zone : Nat) (t : TempInput) : CacheKey :=
  { zone := zone, temp := t, generation := x.generation }

/-- The recomputation of one kind where its key has changed: the new code, the recorded key, the flags taken as
sticky, and POWER LIMITS where one of them was clear (R134, R135). -/
def State.recompute (zone : Nat) (k : SetKind) (s : State) : State :=
  let x := s.power.get k
  let key := x.keyFor zone s.tempInput
  if x.key = some key then s
  else
    let r := compute x.active zone s.tempInput
    let sticky := s.power.sticky.join r.flags
    let p := { s.power.set k { x with code := r.code, key := some key } with sticky := sticky }
    let s' := s.withPower p
    if sticky = s.power.sticky then s' else s'.raise .powerLimits

/-- What the calculator does at an index that begins a revolution: every pending switch, then the recomputation of
each kind (R127, R134). -/
def State.powerAtRevolution (zone : Nat) (s : State) : State :=
  let s := s.withPower (s.power.mapKinds PowerKind.applySwitch)
  ((s.recompute zone .read).recompute zone .erase).recompute zone .write

/-- What the calculator does at mount completion: every pending switch, no recomputation (R127). -/
def State.powerAtMount (s : State) : State := s.withPower (s.power.mapKinds PowerKind.applySwitch)

/-- The code the laser driver is given: that of the kind of the laser level, none while OFF (R90, R133). -/
def State.laserCode (s : State) : Option Nat :=
  match s.laser with
  | .off => none
  | .read => some s.power.read.code
  | .erase => some s.power.erase.code
  | .write => some s.power.write.code

end Sys2Proof.Machine
end

