-- ==== Sys2Proof/Machine/Remap.lean ====
section
/-! DEFINITION. Chapter 8: the remap entries in table order, the effective translation, the allocation of spares,
the map image, the load decision's test and READ MAP. -/

namespace Sys2Proof.Machine

/-! ### Entries and table order (R142, R143) -/

/-- The spare PSA an entry names (R142). -/
def Entry.spare : Entry → Psa
  | .pending _ p _ => p
  | .active _ p => p
  | .retired p => p

/-- The LSN an entry carries; none for a RETIRED one (R142). -/
def Entry.lsn? : Entry → Option Nat
  | .pending l _ _ => some l
  | .active l _ => some l
  | .retired _ => none

/-- The table position of an entry (R159). -/
def Entry.position : Entry → Position
  | .pending l _ _ => .pending l
  | .active l _ => .active l
  | .retired p => .retired p

/-- The rank of a position in table order: entries with an LSN by LSN, ACTIVE before PENDING, then RETIRED entries
by spare PSA (R143). -/
def Position.rank : Position → Nat
  | .active l => 2 * l
  | .pending l => 2 * l + 1
  | .retired p => 2 * lsnEnd + p.track * 65536 + p.sector

/-- The rank of an entry in table order (R143). -/
def Entry.rank (e : Entry) : Nat := e.position.rank

/-- An entry joins the table at the place its state gives it (R143). -/
def insertEntry (e : Entry) : List Entry → List Entry
  | [] => [e]
  | x :: xs => if e.rank < x.rank then e :: x :: xs else x :: insertEntry e xs

/-- Whether an entry is the PENDING entry owned by a job (R142). -/
def Entry.ownedBy (j : JobId) : Entry → Bool
  | .pending _ _ o => o == j
  | _ => false

/-- Whether an entry is PENDING. -/
def Entry.isPending : Entry → Bool
  | .pending .. => true
  | _ => false

/-- Whether an entry is the ACTIVE entry of an LSN. -/
def Entry.isActiveOf (lsn : Nat) : Entry → Bool
  | .active l _ => l == lsn
  | _ => false

/-! ### The effective translation (R12) -/

/-- The effective PSA of an LSN under a table: the spare of its ACTIVE entry, otherwise its home (R12). -/
def effectiveIn (entries : List Entry) (lsn : Nat) : Psa :=
  match entries.find? (Entry.isActiveOf lsn) with
  | some e => e.spare
  | none => home lsn

/-- The effective PSA of an LSN (R12, R13). -/
def State.effective (s : State) (lsn : Nat) : Psa := effectiveIn s.remap.entries lsn

/-! ### The dirty flag (R148) -/

/-- The dirty flag is set, and with it the stale mark of a flush whose snapshot has been made (R148, R154). -/
def Remap.setDirty (r : Remap) : Remap :=
  { r with
    dirty := true
    flush := r.flush.map fun f => if f.phase = .waitingForSlots then f else { f with stale := true } }

/-! ### Allocation (R145) -/

/-- The most entries the table holds (R143). -/
def remapCapacity : Nat := 2048

/-- The lowest free spare of the first band with one, in the search order of the LSN's zone (R145). -/
def allocateSpare (entries : List Entry) (lsn : Nat) : Option Psa :=
  if entries.length < remapCapacity then
    ((bandOrder (lsnZone lsn)).flatMap spareBand).find? fun p => entries.all fun e => e.spare != p
  else none

/-- A refused allocation raises MAP FULL once for each mount (R143). -/
def State.mapFull (s : State) : State :=
  if s.remap.fullMark then s else (s.withRemap { s.remap with fullMark := true }).raise .mapFull

/-! ### What the end of a job does to its PENDING entry (R146, R147) -/

/-- The PENDING entry owned by a job, if any. -/
def Remap.owned (r : Remap) (j : JobId) : Option Entry := r.entries.find? (Entry.ownedBy j)

/-- The table without the PENDING entry a job owns (R147). -/
def Remap.dropOwned (j : JobId) (r : Remap) : Remap :=
  { r with entries := r.entries.filter fun e => !e.ownedBy j }

/-- Every ACTIVE entry of an LSN becomes RETIRED (R146 step 1). -/
def retireActive (lsn : Nat) (entries : List Entry) : List Entry :=
  (entries.filter (Entry.isActiveOf lsn)).foldl (fun es e => insertEntry (.retired e.spare) es)
    (entries.filter fun e => !e.isActiveOf lsn)

/-- The PENDING entry of a job that ended DONE becomes ACTIVE, after the older ACTIVE entry of its LSN has become
RETIRED, and the dirty flag is set (R146). -/
def Remap.activateOwned (j : JobId) (r : Remap) : Remap :=
  match r.owned j with
  | some (.pending lsn spare _) =>
      let rest := (r.dropOwned j).entries
      { r with entries := insertEntry (.active lsn spare) (retireActive lsn rest) }.setDirty
  | _ => r

/-- The PENDING entry of a job becomes RETIRED where its spare is the job's target, and the dirty flag is set
(R144 step 1). -/
def Remap.retireOwned (j : JobId) (target : Psa) (r : Remap) : Remap :=
  match r.owned j with
  | some (.pending _ spare _) =>
      if spare = target then
        { r with entries := insertEntry (.retired spare) (r.dropOwned j).entries }.setDirty
      else r
  | _ => r

/-- Every PENDING entry is dropped (R147: fault spin-down; R162: soft reset). -/
def Remap.dropPending (r : Remap) : Remap := { r with entries := r.entries.filter fun e => !e.isPending }

/-- The table is emptied (R160). The cursor is kept (R159). -/
def Remap.emptied (r : Remap) : Remap := { Remap.reset with cursor := r.cursor }

/-! ### The map image (R149) -/

/-- The map sectors that carry the image (R149). -/
def mapSectors : Nat := 17

/-- The entries of one map sector (R149). -/
def entriesPerSector : Nat := 126

/-- The stored form of an entry; PENDING entries are not stored (R149). -/
def Entry.stored : Entry → Option StoredEntry
  | .active l p => some { lsn := some l, spare := p }
  | .retired p => some { lsn := none, spare := p }
  | .pending .. => none

/-- The 17 sector images of a snapshot under a generation (R149, R154). -/
def mapImage (entries : List Entry) (generation : BitVec 32) : List MapSector :=
  let stored := entries.filterMap Entry.stored
  (List.range mapSectors).map fun k =>
    let part := (stored.drop (entriesPerSector * k)).take entriesPerSector
    { number := k, generation := generation, count := part.length, entries := part }

/-- The entry a stored one stands for in the loaded table (R151). -/
def StoredEntry.toEntry (e : StoredEntry) : Entry :=
  match e.lsn with
  | some l => .active l e.spare
  | none => .retired e.spare

/-- Whether every element but those after the last nonzero count is a full sector's count (R151). -/
def countsPacked : List Nat → Bool
  | [] => true
  | c :: cs => (decide (c = entriesPerSector) || cs.all (· == 0)) && countsPacked cs

/-- Whether a list of numbers rises strictly. -/
def strictlyRising : List Nat → Bool
  | a :: b :: rest => decide (a < b) && strictlyRising (b :: rest)
  | _ => true

/-- The map sectors of a list of results, where every result is GOOD with the map signature. -/
def goodSectors : List LoadResult → Option (List MapSector)
  | [] => some []
  | .good (some m) :: rest => (goodSectors rest).map (m :: ·)
  | _ :: _ => none

/-- Whether 17 map sectors are a valid image (R151). -/
def validImage (ms : List MapSector) : Bool :=
  let entries := (ms.flatMap MapSector.entries).map StoredEntry.toEntry
  decide (ms.map MapSector.number = List.range mapSectors)
    && ms.all (fun m => decide (ms.head?.map MapSector.generation = some m.generation))
    && ms.all (fun m => decide (m.count ≤ entriesPerSector) && decide (m.entries.length = m.count))
    && countsPacked (ms.map MapSector.count)
    && decide ((ms.map MapSector.count).sum ≤ remapCapacity)
    && entries.all (fun e => (e.lsn?.all fun l => decide (l < lsnEnd)) && decide (e.spare.cls = some .spare))
    && strictlyRising (entries.map Entry.rank)
    && decide (entries.map Entry.spare).Nodup

/-- The three outcomes of the load decision (R151). -/
inductive LoadDecision where
  | emptyMap
  | loaded (entries : List Entry) (generation : BitVec 32)
  | damaged
  deriving DecidableEq, Repr

/-- The load decision over the 17 results (R151). -/
def loadDecision (results : List LoadResult) : LoadDecision :=
  if results.all (· == .blank) then .emptyMap
  else
    match goodSectors results with
    | some ms =>
        if validImage ms then
          .loaded ((ms.flatMap MapSector.entries).map StoredEntry.toEntry)
            ((ms.head?.map MapSector.generation).getD 0)
        else .damaged
    | none => .damaged

/-! ### READ MAP (R158, R159) -/

/-- Whether an entry follows the cursor in table order (R159). -/
def Cursor.before (c : Cursor) (e : Entry) : Bool :=
  match c with
  | .start => true
  | .after p => decide (p.rank < e.rank)
  | .atEnd => false

/-- The most entries one MAP REPORT carries (R158). -/
def reportEntries : Nat := 64

/-- READ MAP: the entries reported, whether the report carries the END mark, and the cursor afterwards (R158). -/
def Remap.readMap (r : Remap) (restart : Bool) : MapReport × Cursor :=
  let cursor := if restart then Cursor.start else r.cursor
  let following := r.entries.filter cursor.before
  let reported := following.take reportEntries
  let finished := decide (following.length ≤ reportEntries)
  let next :=
    if finished then Cursor.atEnd
    else match reported.getLast? with
      | some e => Cursor.after e.position
      | none => Cursor.atEnd
  ({ status := r.status, generation := r.generation, dirty := r.dirty, count := r.entries.length, atEnd := finished,
     entries := reported }, next)

end Sys2Proof.Machine
end

