-- ==== Sys2Proof/Machine/Requests.lean ====
section
/-! DEFINITION. The request table (Chapter 3): tags in use, counters, and the one DONE of each request. -/

namespace Sys2Proof.Machine

/-- The request record of a tag. -/
def State.request? (s : State) (tag : Nat) : Option Request := s.requests.find? fun r => r.tag == tag

/-- A tag is in use while its record is in the table (R36). -/
def State.tagInUse (s : State) (tag : Nat) : Bool := s.requests.any fun r => r.tag == tag

/-- Whether a record is live: OPEN or CANCELLING (R35). -/
def Request.live (r : Request) : Bool := decide (r.state ≠ .ended)

/-- The number of live records (R35, R193). -/
def State.liveCount (s : State) : Nat := s.requests.countP Request.live

/-- The record of a tag changes. -/
def State.updateRequest (tag : Nat) (f : Request → Request) (s : State) : State :=
  s.withRequests (s.requests.map fun r => if r.tag = tag then f r else r)

/-- A new request record in OPEN, every counter 0 (R35). -/
def newRequest (tag : Nat) (kind : RequestKind) (span : Option (Nat × Nat)) (preErased : Bool) (outstanding : Nat) :
    Request :=
  { tag := tag, kind := kind, span := span, preErased := preErased, state := .opened, outstanding := outstanding,
    doneCount := 0, failed := 0, blank := 0, reassigned := 0, disturbed := 0, firstFailure := none, abortReason := none }

/-- A request record is created (R35). -/
def State.addRequest (r : Request) (s : State) : State := s.withRequests (s.requests ++ [r])

/-- When the DONE of a tag has left the lane its record is removed and the tag is free (R36). -/
def State.freeTag (tag : Nat) (s : State) : State := s.withRequests (s.requests.filter fun r => r.tag != tag)

/-- The outcome and the reason of a DONE: the first row of R60 that applies. `recorded` is the reason a mount or an
unmount context recorded. -/
def Request.verdict (r : Request) (recorded : Option Reason) : DoneOutcome × Reason :=
  let first := (r.firstFailure.map Prod.snd).getD .none
  match r.abortReason, recorded with
  | some a, _ => (.aborted, a)
  | none, rec =>
      if r.state = .cancelling then (.cancelled, first)
      else
        match rec with
        | some x => (.completeWithErrors, x)
        | none => if 0 < r.failed then (.completeWithErrors, first) else (.complete, .none)

/-- The DONE record of a request (R60). -/
def Request.doneRecord (r : Request) (recorded : Option Reason) : Record :=
  let v := r.verdict recorded
  .done r.tag v.1 v.2
    { doneCount := r.doneCount, failed := r.failed, blank := r.blank, reassigned := r.reassigned, disturbed := r.disturbed }
    (r.firstFailure.bind Prod.fst)

/-- The request of a tag ends: its state becomes ENDED and its DONE is composed (R58, R60). -/
def State.endRequest (tag : Nat) (recorded : Option Reason) (s : State) : State :=
  match s.request? tag with
  | some r => (s.updateRequest tag fun q => { q with state := .ended }).compose (r.doneRecord recorded)
  | none => s

/-- A READ, WRITE or ERASE ends when its outstanding count is 0 and, for a READ, none of its DATA IN records is
unsent (R58). A request in ENDED is not ended again. -/
def State.tryEndRequest (tag : Nat) (s : State) : State :=
  match s.request? tag with
  | some r =>
      if r.state ≠ .ended ∧ r.outstanding = 0 ∧
          (r.kind = .write ∨ r.kind = .erase ∨ (r.kind = .read ∧ s.unsentData tag = false)) then
        s.endRequest tag none
      else s
  | none => s

/-! ### Job kinds as the counters need them (R44, R57) -/

/-- Whether a kind is write-type (R44). -/
def JobKind.writeType : JobKind → Bool
  | .hostWrite | .hostErase | .refresh | .mapWrite => true
  | .hostRead | .streamRead | .mapRead => false

/-- Whether the removal or the discard of a job counts as disturbed (R57, R59). -/
def Job.disturbs (j : Job) : Bool :=
  j.kind.writeType && (decide (j.phase = .erased) || decide (j.phase = .written) || j.touched)

/-- A request ends ABORTED by removal or a fault: the discarded jobs that disturb are counted, the reason is set and
the DONE composed at once (R58, R59, R60). The outstanding count of the ENDED record stays as it stood: R51 lowers it at
a job's end, and a discarded job does not end (R54); R35 leaves the case open (DESIGN CHOICE, assumption 41). -/
def State.abortRequest (reason : Reason) (s : State) (tag : Nat) : State :=
  let n := s.jobs.countP fun j => decide (j.owner = .tag tag) && j.disturbs
  (s.updateRequest tag fun r => { r with abortReason := some reason, disturbed := r.disturbed + n }).endRequest tag none

/-- Every live request ends ABORTED, in the order of the table (R25, R27; assumption 13). -/
def State.abortRequests (reason : Reason) (s : State) : State :=
  ((s.requests.filter Request.live).map Request.tag).foldl (State.abortRequest reason) s

end Sys2Proof.Machine
end

