-- ==== Sys2Proof/Machine/Flush.lean ====
section
/-! DEFINITION. The map flush (section 8.5) and the write-inhibit reason set (section 2.6), which act on each other:
a failed flush adds a reason, and a reason that enters makes a running flush withdraw its claims. -/

namespace Sys2Proof.Machine

/-! ### The reason the inhibit rules give (R30) -/

/-- The reason the ended jobs carry for an entering reason (R30). -/
def Inhibit.carried : Inhibit → Reason
  | .magnetFault => .magnetFault
  | .tab | .mapDamaged | .mapWriteFailed => .writeInhibited

/-- The reason that comes from the first reason to enter that is still in the set (R30). -/
def State.inhibitReason (s : State) : Reason := (s.sup.inhibit.head?.map Inhibit.carried).getD .writeInhibited

/-! ### Recording the results of map sectors (R154 to R156) -/

/-- The flush context changes. -/
def State.updateFlush (f : FlushContext → FlushContext) (s : State) : State :=
  s.withRemap { s.remap with flush := s.remap.flush.map f }

/-- The FLUSH MAP request counts the result of a map sector; its first failure has no LSN (R59, R155, R156). -/
def Request.countSector (res : FlushSector) (r : Request) : Request :=
  match res with
  | .done => { r with outstanding := r.outstanding - 1, doneCount := r.doneCount + 1 }
  | .failed reason =>
      { r with outstanding := r.outstanding - 1, failed := r.failed + 1,
               firstFailure := some (r.firstFailure.getD (none, reason)) }
  | _ => r

/-- A result is recorded for a map sector of the flush, and its FLUSH MAP request counts it. -/
def State.recordFlush (k : Nat) (res : FlushSector) (s : State) : State :=
  match s.remap.flush with
  | some f =>
      let s' := s.updateFlush fun f => { f with sectors := f.sectors.set k res }
      match f.owner with
      | some tag => s'.updateRequest tag (Request.countSector res)
      | none => s'
  | none => s

/-- A map sector without a job is recorded FAILED and its slot returns to the free pool (R41, R154, R156). -/
def State.failSector (reason : Reason) (s : State) (k : Nat) : State :=
  match s.remap.flush with
  | some f =>
      match f.sectors[k]? with
      | some (.waiting slot) => (s.recordFlush k (.failed reason)).returnSlots [slot]
      | some .noSlot => s.recordFlush k (.failed reason)
      | _ => s
  | none => s

/-- The map sectors whose MAP WRITE job the flush claims an entry for: those without a job in the pass under way
(R46, R154). -/
def FlushContext.claims (f : FlushContext) : List Nat :=
  let isWaiting := fun k => match f.sectors[k]? with | some (.waiting _) => true | _ => false
  match f.phase with
  | .waitingForSlots => []
  | .writing0to15 => (List.range 16).filter isWaiting
  | .writing16 => [16].filter isWaiting

/-- The flush withdraws every claim it holds; each of those sectors is recorded FAILED and its slot returns (R154), in
ascending order of the sectors (DESIGN CHOICE, assumption 42). -/
def State.withdrawFlushClaims (s : State) : State :=
  match s.remap.flush with
  | some f => f.claims.foldl (State.failSector s.inhibitReason) s
  | none => s

/-- Every map sector without a job is recorded FAILED and its slot returns (R156), in ascending order of the sectors
(DESIGN CHOICE, assumption 42). -/
def State.failUncreated (s : State) : State := (List.range mapSectors).foldl (State.failSector s.inhibitReason) s

/-- Whether every map sector has recorded a result (R156). -/
def FlushContext.allRecorded (f : FlushContext) : Bool :=
  f.sectors.all fun x => match x with | .done => true | .failed _ => true | _ => false

/-- Whether every map sector has recorded DONE (R155). -/
def FlushContext.allDone (f : FlushContext) : Bool := f.sectors.all (· == .done)

/-- Whether some map sector has recorded FAILED (R156). -/
def FlushContext.anyFailed (f : FlushContext) : Bool :=
  f.sectors.any fun x => match x with | .failed _ => true | _ => false

/-- Whether the flush fails: some map sector has recorded FAILED. From there it takes no slots, and its claims are
withdrawn (R156). -/
def State.flushFailed (s : State) : Bool := s.remap.flush.any FlushContext.anyFailed

/-- Whether sectors 0–15 have all recorded DONE (R154). -/
def FlushContext.firstPassDone (f : FlushContext) : Bool := (f.sectors.take 16).all (· == .done)

/-- When sectors 0–15 have all ended DONE the pass of sector 16 begins; while the inhibit set is not empty its claim
is not made and it is recorded FAILED (R154). -/
def State.nextFlushPass (s : State) : State :=
  match s.remap.flush with
  | some f =>
      if f.phase = .writing0to15 ∧ f.firstPassDone = true then
        let s' := s.updateFlush fun f => { f with phase := .writing16 }
        if s.sup.inhibit = [] then s' else s'.failSector s.inhibitReason 16
      else s
  | none => s

/-! ### The inhibit set (R29, R30) -/

/-- The inhibit set changes. -/
def State.setInhibit (xs : List Inhibit) (s : State) : State := s.withSup { s.sup with inhibit := xs }

/-- A reason leaves the set; removing an absent one changes nothing (R29). -/
def State.removeInhibit (r : Inhibit) (s : State) : State := s.setInhibit (s.sup.inhibit.filter (· != r))

/-- The second stage is due at the next index event, or at once if the head is not REVOLVING (R30). -/
def State.startSecondStage (s : State) : State :=
  let stage :=
    if s.planner.head ≠ .revolving ∨ s.sup.secondStage = .now then SecondStage.now else SecondStage.atIndex
  s.withSup { s.sup with secondStage := stage }

/-- A reason enters the set; adding a present one changes nothing (R29). While the state is mounted the two stages of
R30 begin, and a flush with claims withdraws them (R154). -/
def State.addInhibit (r : Inhibit) (s : State) : State :=
  if r ∈ s.sup.inhibit then s
  else
    let s' := s.setInhibit (s.sup.inhibit ++ [r])
    if s.sup.mount.mounted then s'.startSecondStage.withdrawFlushClaims else s'

/-- At the first FAILED record of a flush MAP WRITE FAILED enters the set, and the sectors not yet created are recorded
FAILED (R156; assumption 25). -/
def State.flushFailureEnters (s : State) : State :=
  if s.flushFailed = true ∧ .mapWriteFailed ∉ s.sup.inhibit then
    (s.addInhibit .mapWriteFailed).failUncreated
  else s

/-- TAB, MAP DAMAGED and MAP WRITE FAILED leave the set with the cartridge; MAGNET FAULT stays (R23, R25, R29). -/
def State.dropMediaInhibits (s : State) : State := s.setInhibit (s.sup.inhibit.filter (· == .magnetFault))

/-- The protect-tab input is sampled (R31). -/
def State.sampleTab (s : State) : State :=
  if s.sup.tabInput then s.addInhibit .tab else s.removeInhibit .tab

end Sys2Proof.Machine
end

