-- ==== Sys2Proof/Machine/Ring.lean ====
section
/-! DEFINITION. Chapter 9: the ring, the ready run, urgency, the fetch pointer and the fetcher's claim, slot fills and
the release of the ring. -/

namespace Sys2Proof.Machine

/-! ### Pages (R164) -/

/-- P, the sectors of a page of N lines of L bytes (R164). -/
def pageSectors (lineLen lineCount : Nat) : Nat := (lineLen * lineCount + 1023) / 1024

/-- The sectors of a page record (R164). -/
def Page.sectors (p : Page) : Nat := pageSectors p.lineLen p.lineCount

/-- The bytes of a page record. -/
def Page.size (p : Page) : Nat := p.lineLen * p.lineCount

/-- The page at a place; an orphan belongs to no page (R168). -/
def Stream.pageAt (t : Stream) : Place → Option Page
  | .active => t.active
  | .pending => t.pendingPage
  | .orphan => none

/-- Whether the active page is PLAYING (R164). -/
def Stream.playing (t : Stream) : Bool :=
  match t.active with
  | some p => p.started
  | none => false

/-- Whether the active page is WAITING (R164). -/
def Stream.waiting (t : Stream) : Bool :=
  match t.active with
  | some p => !p.started
  | none => false

/-! ### The ring (R166) -/

/-- The slot that holds a page sector, if it is filled. -/
def Stream.filledSlot (t : Stream) (place : Place) (sector : Nat) : Option Slot :=
  (t.filled.find? fun x => decide (x.place = place) && decide (x.sector = sector)).map Filled.slot

/-- The number of consecutive filled sectors of a page from one on, at most a bound. -/
def Stream.runFrom (t : Stream) (place : Place) : Nat → Nat → Nat
  | 0, _ => 0
  | bound + 1, sector =>
      if (t.filledSlot place sector).isSome then t.runFrom place bound (sector + 1) + 1 else 0

/-- The ready run (R169): consecutive filled slots from the read position's sector on, running on into the pending
page where the active page's sectors are exhausted. -/
def Stream.readyRun (t : Stream) : Nat :=
  match t.active with
  | some p =>
      if p.abandoned then 0
      else
        let first := t.readPos / 1024
        let run := t.runFrom .active (min t.filled.length (p.sectors - first)) first
        if 0 < run ∧ first + run = p.sectors then
          match t.pendingPage with
          | some q => run + t.runFrom .pending (min t.filled.length q.sectors) 0
          | none => run
        else run
  | none => 0

/-- The filled sectors of a place from one on. -/
def Stream.filledFrom (t : Stream) (place : Place) (first : Nat) : Nat :=
  t.filled.countP fun x => decide (x.place = place) && decide (first ≤ x.sector)

/-- Whether some sector of the active page not abandoned, or of the pending page, is not filled and does not lie
wholly behind the read position (R169). -/
def Stream.toFill (t : Stream) : Bool :=
  (match t.active with
    | some p => !p.abandoned && decide (t.filledFrom .active (t.readPos / 1024) < p.sectors - t.readPos / 1024)
    | none => false)
  || (match t.pendingPage with
    | some q => decide (t.filledFrom .pending 0 < q.sectors)
    | none => false)

/-- Whether the fetcher reports the stream urgent (R169). -/
def State.urgent (s : State) : Bool :=
  s.stream.active.isSome && decide (s.stream.readyRun < s.cfg.wLo) && s.stream.toFill

/-- Whether the active page meets its start condition (R170). -/
def State.startCondition (s : State) : Bool :=
  match s.stream.active with
  | some p => decide (s.cfg.wHi ≤ s.stream.readyRun) || decide (s.stream.filledFrom .active 0 = p.sectors)
  | none => false

/-! ### The fetch pointer and the claim (R167) -/

/-- Whether the fetcher holds a claim on the job table: the fetch pointer names a sector and a ring slot is free. -/
def State.streamClaim (s : State) : Bool := s.stream.fetch.isSome && !s.stream.ringFree.isEmpty

/-- Where the fetch pointer goes when it leaves the active page: to the pending page's sector 0, or to none. -/
def Stream.fetchPending (t : Stream) : Option (Place × Nat) :=
  if t.pendingPage.isSome then some (.pending, 0) else none

/-- The fetch pointer after the page sector it names has been given a job (R167 step 4). -/
def Stream.advanceFetch (t : Stream) : Option (Place × Nat) :=
  match t.fetch with
  | some (.active, k) =>
      match t.active with
      | some p => if k + 1 < p.sectors then some (.active, k + 1) else t.fetchPending
      | none => none
  | some (.pending, k) =>
      match t.pendingPage with
      | some q => if k + 1 < q.sectors then some (.pending, k + 1) else none
      | none => none
  | _ => none

/-- The fetch pointer, moved off the active page where it names one of its sectors (R173, R177; for R175 assumption
17). Where it already names a sector of the pending page it stays there: R177 keeps it by its step 4, and for an abandoned
page R173's words "if the pending page is present and not yet reached, or to none" leave it open (DESIGN CHOICE,
assumption 43). -/
def Stream.fetchOffActive (t : Stream) : Option (Place × Nat) :=
  match t.fetch with
  | some (.active, _) => t.fetchPending
  | other => other

/-! ### Slots of the ring -/

/-- A page sector's slot becomes filled (R168); where the active page is WAITING its start is to be tested (R170). -/
def State.slotFill (place : Place) (sector : Nat) (slot : Slot) (s : State) : State :=
  s.withStream { s.stream with
    filled := s.stream.filled ++ [{ place := place, sector := sector, slot := slot }]
    startTest := s.stream.startTest || s.stream.waiting }

/-- Slots become free in the ring (R166). -/
def State.ringReturn (slots : List Slot) (s : State) : State :=
  s.withStream { s.stream with ringFree := s.stream.ringFree ++ slots }

/-- The filled slots a test picks become free in the ring. -/
def State.freeFilled (pick : Filled → Bool) (s : State) : State :=
  s.withStream { s.stream with
    filled := s.stream.filled.filter fun x => !pick x
    ringFree := s.stream.ringFree ++ (s.stream.filled.filter pick).map Filled.slot }

/-- A page record changes. -/
def State.updatePage (place : Place) (f : Page → Page) (s : State) : State :=
  match place with
  | .active => s.withStream { s.stream with active := s.stream.active.map f }
  | .pending => s.withStream { s.stream with pendingPage := s.stream.pendingPage.map f }
  | .orphan => s

/-- Whether a job is a STREAM READ. -/
def Job.isStream (j : Job) : Bool := decide (j.kind = .streamRead)

/-- Whether a job is an orphan: a stream job of a stopped page (R178). -/
def Job.isOrphan (j : Job) : Bool := j.isStream && decide (j.page.map Prod.fst = some .orphan)

/-- The orphan count (R163, R178). -/
def State.orphanCount (s : State) : Nat := s.jobs.countP Job.isOrphan

/-- The ring is released when no page is present and no stream job holds a ring slot: its slots return to the free
pool (R166). -/
def State.releaseRing (s : State) : State :=
  if s.stream.reserved ∧ s.stream.active = none ∧ s.stream.pendingPage = none ∧ s.jobs.any Job.isStream = false then
    (s.returnSlots (s.stream.ringFree ++ s.stream.filled.map Filled.slot)).withStream
      { s.stream with reserved := false, ringFree := [], filled := [] }
  else s

end Sys2Proof.Machine
end

