-- ==== Sys2Proof/Machine/Jobs.lean ====
section
/-! DEFINITION. The job table (Chapter 3): creation, holds, the one act that ends a job, refreshes, discards, the
reassignment of a job to a spare (section 8.2), and the second stage of the inhibit rules, which ends every write-type job. -/

namespace Sys2Proof.Machine

/-! ### Entries (R42, R46) -/

/-- The entries of the job table (R42). -/
def tableEntries : Nat := 256

/-- The free entries of the job table. -/
def State.freeEntries (s : State) : Nat := tableEntries - s.jobs.length

/-- The job of an id. -/
def State.job? (s : State) (id : JobId) : Option Job := s.jobs.find? fun j => j.id == id

/-- The job of an id changes. -/
def State.updateJob (id : JobId) (f : Job → Job) (s : State) : State :=
  s.withJobs (s.jobs.map fun j => if j.id = id then f j else j)

/-- The lowest entry number that no job has and that is not among the excepted ones (R42; assumption 7). -/
def freshId (jobs : List Job) (except : List JobId) : Option JobId :=
  allJobIds.find? fun i => !jobs.any (fun j => j.id == i) && !except.contains i

/-- Whether a claim on the job table waits (R46). -/
def State.claimWaits (s : State) : Bool :=
  s.streamClaim || (match s.remap.flush with | some f => !f.claims.isEmpty | none => false)

/-! ### Phases and holds (R44, R47) -/

/-- The first phase of a job (R44). -/
def Job.firstPhase (j : Job) : Phase :=
  if !j.kind.writeType then .needRead
  else if j.kind = .hostWrite ∧ j.preErased = true then .erased else .needErase

/-- Whether an older job of the table holds a job: same LSN, and one of the two write-type (R47). -/
def Job.holds (older j : Job) : Bool :=
  j.lsn.isSome && decide (older.lsn = j.lsn) && (j.kind.writeType || older.kind.writeType)

/-- The youngest of the older jobs that holds a job (R47). -/
def holder (older : List Job) (j : Job) : Option JobId := ((older.filter fun o => o.holds j).getLast?).map Job.id

/-- A job is released: held-behind absent, its first phase, its target (R47, R44). -/
def Job.release (target : Psa) (j : Job) : Job :=
  { j with phase := j.firstPhase, heldBehind := none, target := target }

/-- The jobs older than one of the table. -/
def State.olderThan (s : State) (id : JobId) : List Job := s.jobs.takeWhile fun j => j.id != id

/-- A job is checked again for a hold: held behind the youngest older job that holds it, or released with its target
taken anew (R47, R12). -/
def State.recheck (s : State) (id : JobId) : State :=
  match s.job? id with
  | some j =>
      match holder (s.olderThan id) j with
      | some h => s.updateJob id fun j => { j with heldBehind := some h }
      | none => s.updateJob id (Job.release ((j.lsn.map s.effective).getD j.target))
  | none => s

/-- The ids of the jobs held behind a job, oldest first. -/
def State.heldBehind (s : State) (id : JobId) : List JobId :=
  (s.jobs.filter fun j => decide (j.heldBehind = some id)).map Job.id

/-! ### Creation (R38, R43) -/

/-- A job record at creation, before the hold check (R43, R44). -/
def newJob (cfg : Settings) (owner : Owner) (kind : JobKind) (lsn : Option Nat) (target : Psa) (slot : Option Slot)
    (dataPresent preErased : Bool) (page : Option (Place × Nat)) (id : JobId) : Job :=
  let j : Job :=
    { id := id, owner := owner, kind := kind, lsn := lsn, target := target, phase := .held
      attempts := 1 + (if kind.writeType then cfg.writeRetries else cfg.readRetries)
      idFailures := 0, sparesTried := 0, slot := slot, dataPresent := dataPresent, touched := false
      heldBehind := none, preErased := preErased, page := page }
  { j with phase := j.firstPhase }

/-- A job enters at the young end with the lowest free entry; with an LSN it takes its target by the effective
translation and is checked for a hold (R42, R38, R47). -/
def State.createJob (except : List JobId) (mk : JobId → Job) (s : State) : State :=
  match freshId s.jobs except with
  | some id =>
      let j := mk id
      let j :=
        match j.lsn with
        | some l =>
            match holder s.jobs j with
            | some h => { j with phase := .held, heldBehind := some h, target := s.effective l }
            | none => j.release (s.effective l)
        | none => j
      s.withJobs (s.jobs ++ [j])
  | none => s

/-! ### How a job ends (R51) -/

/-- The outcomes of a job: DONE (with the read status, the count c, and the content of a map sector), FAILED with a
reason, or CANCELLED. -/
inductive Ending where
  | done (blank : Bool) (c : Nat) (content : Option MapSector)
  | failed (r : Reason)
  | cancelled
  deriving DecidableEq, Repr

/-- A job leaves the table: its planned action is withdrawn, and an action already open goes on without it (R81). -/
def State.leaveTable (id : JobId) (s : State) : State :=
  let s := s.withJobs (s.jobs.filter fun j => j.id != id)
  let s := s.withPlanner { s.planner with
    plan := s.planner.plan.map fun p => { p with actions := p.actions.filter fun a => a.job != id } }
  s.withSeq { s.seq with
    openAction := s.seq.openAction.map fun o => if o.job = some id then { o with job := none } else o }

/-- The counters of a request when one of its jobs ends (R59). -/
def Request.countEnd (j : Job) (e : Ending) (r : Request) : Request :=
  let r := { r with outstanding := r.outstanding - 1 }
  match e with
  | .done blank _ _ =>
      { r with
        doneCount := r.doneCount + 1
        blank := r.blank + (if blank && decide (j.kind = .hostRead) then 1 else 0)
        reassigned := r.reassigned + (if j.kind.writeType && decide (0 < j.sparesTried) then 1 else 0) }
  | .failed reason =>
      { r with failed := r.failed + 1, firstFailure := some (r.firstFailure.getD (j.lsn, reason)) }
  | .cancelled => { r with disturbed := r.disturbed + (if j.disturbs then 1 else 0) }

/-- Step 5 of a job's ending for an owner with a request, and for a refresh (R51). -/
def State.ownerEnd (j : Job) (e : Ending) (s : State) : State :=
  match j.owner with
  | .tag t => (s.updateRequest t (Request.countEnd j e)).tryEndRequest t
  | .refresh =>
      match e with
      | .failed _ => s.raise .refreshFailed
      | _ => s
  | .stream | .map => s

/-- The result of a map sector of the load is recorded (R150). -/
def State.recordLoad (k : Nat) (res : LoadResult) (s : State) : State :=
  s.withRemap { s.remap with load := s.remap.load.map fun rs => rs.set k (some res) }

/-- The result a MAP READ's ending records (R150). -/
def loadResultOf : Ending → LoadResult
  | .done false _ content => .good content
  | .done true _ _ => .blank
  | .failed _ => .failed
  | .cancelled => .failed

/-- What the stream fetcher does with the slot of a STREAM READ that ends (R168), and the release of the ring when
that was the last one (R166). -/
def State.streamEnd (j : Job) (e : Ending) (s : State) : State :=
  match j.page, j.slot with
  | some (place, sector), some slot =>
      let s :=
        if place = .orphan then s.ringReturn [slot]
        else
          match e with
          | .done _ _ _ => s.slotFill place sector slot
          | .failed _ =>
              (((s.fillSlot slot zeroBytes).slotFill place sector slot).raise .streamDataError).updatePage place
                fun p => { p with failedSectors := p.failedSectors + 1 }
          | .cancelled => s.ringReturn [slot]
      s.releaseRing
  | _, _ => s

/-- The refresh a reading job asks for at its delivery (R53, R105): created with a copy of the corrected bytes where
the four conditions hold, otherwise dropped. The reading job has left the list, and its entry counts as occupied. -/
def State.askRefresh (j : Job) (s : State) : State :=
  match s.pool with
  | slot :: rest =>
      if 0 < s.available ∧ s.jobs.length + 1 < tableEntries ∧ s.claimWaits = false ∧ s.sup.inhibit = [] ∧
          s.jobs.any (fun o => decide (o.lsn = j.lsn) && o.kind.writeType) = false then
        let s := (s.withPool rest).fillSlot slot ((j.slot.map s.slotBytes).getD [])
        s.createJob [j.id] (newJob s.cfg .refresh .refresh j.lsn j.target (some slot) true false none)
      else s.raise .refreshDropped
  | [] => s.raise .refreshDropped

/-- Step 3 of a reading job's ending: the refresh it calls for, then the delivery of its data (R51 to R53). An orphan STREAM
READ calls for one too: R105 names every STREAM READ, and R81 and R178 say that an orphan's result is discarded (DESIGN CHOICE,
assumption 46). -/
def State.deliver (j : Job) (e : Ending) (s : State) : State :=
  let s :=
    match e with
    | .done false c _ => if j.kind ≠ .mapRead ∧ s.cfg.rt < c then s.askRefresh j else s
    | _ => s
  match j.kind, e with
  | .hostRead, .done blank c _ =>
      match j.owner, j.lsn, j.slot with
      | .tag t, some l, some slot => s.compose (.dataIn t l blank c slot (s.slotBytes slot))
      | _, _, _ => s
  | .hostRead, _ => s.returnSlot j.slot
  | .streamRead, e => s.streamEnd j e
  | .mapRead, e => s.recordLoad j.target.sector (loadResultOf e)
  | _, _ => s

/-- A read-type job ends (R51): it leaves the table, the jobs held behind it are checked again, its data is delivered
or its slot returns, and its owner is told. -/
def State.endRead (j : Job) (e : Ending) (s : State) : State :=
  let s := s.leaveTable j.id
  let s := (s.heldBehind j.id).foldl State.recheck s
  (s.deliver j e).ownerEnd j e

/-- The read-after-write copy (R48): the read job is released, takes the writer's bytes and ends DONE with c = 0. -/
def State.copyFrom (w h : Job) (s : State) : State :=
  let h' := h.release ((h.lsn.map s.effective).getD h.target)
  let s := s.updateJob h.id fun _ => h'
  let s :=
    match w.slot, h.slot with
    | some src, some dst => s.fillSlot dst (s.slotBytes src)
    | _, _ => s
  s.endRead h' (.done false 0 none)

/-- How a job held behind a write-type job that ended is dealt with (R48). -/
def State.serveHeld (w : Job) (copies : Bool) (s : State) (id : JobId) : State :=
  match s.job? id with
  | some h => if copies && !h.kind.writeType then s.copyFrom w h else s.recheck id
  | none => s

/-- Whether the end of a write-type job serves the reads held behind it by the copy (R48). -/
def copiesToReads (w : Job) (e : Ending) : Bool :=
  match e with
  | .done _ _ _ => decide (w.kind = .hostWrite) || decide (w.kind = .refresh)
  | _ => false

/-- The result a MAP WRITE's ending records (R155, R156). -/
def flushResultOf : Ending → FlushSector
  | .done _ _ _ => .done
  | .failed r => .failed r
  | .cancelled => .failed .none

/-- A write-type job ends (R51): the remap table is told, the jobs held behind it are dealt with, its slot returns, and
its owner is told. -/
def State.endWrite (j : Job) (e : Ending) (s : State) : State :=
  let s := s.leaveTable j.id
  let s :=
    match e with
    | .done _ _ _ => s.withRemap (s.remap.activateOwned j.id)
    | _ => s.withRemap (s.remap.dropOwned j.id)
  let s := (s.heldBehind j.id).foldl (State.serveHeld j (copiesToReads j e)) s
  let s := s.returnSlot j.slot
  if j.kind = .mapWrite then (s.recordFlush j.target.sector (flushResultOf e)).nextFlushPass
  else s.ownerEnd j e

/-- A job ends (R51). -/
def State.endJob (j : Job) (e : Ending) (s : State) : State :=
  if j.kind.writeType then s.endWrite j e else s.endRead j e

/-- The job of an id ends; a report that names a job no longer in the table is ignored (R45). -/
def State.endJobId (e : Ending) (s : State) (id : JobId) : State :=
  match s.job? id with
  | some j => s.endJob j e
  | none => s

/-- The jobs a test picks end one by one, oldest first: the rules say so of the jobs of one cancel (R57) and of the jobs of one
request that fail at one event (R61). Among stream jobs removed at one moment (R173, R174, R177, R178), and at the second stage
among the jobs of several owners, so that their slots return in that order, it is a DESIGN CHOICE (assumption 44). -/
def State.endJobs (pick : Job → Bool) (e : Ending) (s : State) : State :=
  ((s.jobs.filter pick).map Job.id).foldl (State.endJobId e) s

/-! ### Reassignment (R144) -/

/-- The most spares a job tries (R144). -/
def spareLimit : Nat := 3

/-- A HOST WRITE, HOST ERASE or REFRESH is reassigned: its failed spare is retired, and it is redirected to a new
PENDING spare or ends with SPARE LIMIT or NO SPARE (R144). -/
def State.reassign (s : State) (id : JobId) : State :=
  match s.job? id with
  | some j =>
      let s := s.withRemap (s.remap.retireOwned id j.target)
      if spareLimit ≤ j.sparesTried then s.endJob j (.failed .spareLimit)
      else
        match j.lsn with
        | some lsn =>
            match allocateSpare s.remap.entries lsn with
            | some spare =>
                (s.withRemap { s.remap with entries := insertEntry (.pending lsn spare id) s.remap.entries }).updateJob id
                  fun j => { j with target := spare, attempts := 1 + s.cfg.writeRetries, idFailures := 0
                                    sparesTried := j.sparesTried + 1, phase := .needErase }
            | none => s.mapFull.endJob j (.failed .noSpare)
        | none => s
  | none => s

/-! ### The second stage of the inhibit rules (R30) -/

/-- The second stage is due at once when the head was not REVOLVING at the entry (R30). -/
def State.secondStageDue (s : State) : Bool := decide (s.sup.secondStage = .now)

/-- A flush that waits for its slots records all 17 sectors FAILED at the second stage (R156). That the slots of the jobs
the stage has just ended do not reach it first (R40) is the model's choice (assumption 38). -/
def State.failWaitingFlush (s : State) : State :=
  if s.flushWaits then (List.range mapSectors).foldl (State.failSector s.inhibitReason) s else s

/-- The second stage: only where the set is still not empty, every write-type job alive ends FAILED, oldest first
(R30, R61). -/
def State.secondStageEffect (s : State) : State :=
  let s := s.withSup { s.sup with secondStage := .idle }
  if s.sup.inhibit = [] then s
  else (s.endJobs (fun j => j.kind.writeType) (.failed s.inhibitReason)).failWaitingFlush

/-! ### Discards (R54) -/

/-- The slots of a flush reservation that no job holds. -/
def FlushContext.reserved (f : FlushContext) : List Slot :=
  f.sectors.filterMap fun x => match x with | .waiting slot => some slot | _ => none

/-- The job table is emptied by a removal or a fault spin-down: no job reports anything, and the slots of the jobs, of
the ring and of the flush return to the free pool; those of DATA IN records stay (R54, R157, R166, R180). The order in
which they join the pool, the jobs' first, then the ring's free and its filled ones, then the flush's, is the model's
choice: R40 speaks of the order in which slots return, and no rule orders those of one discard (assumption 35). -/
def State.discardJobs (s : State) : State :=
  let slots := s.jobs.filterMap Job.slot ++ s.stream.ringFree ++ s.stream.filled.map Filled.slot
    ++ (match s.remap.flush with | some f => f.reserved | none => [])
  let s := (s.returnSlots slots).withJobs []
  let s := s.withStream { s.stream with reserved := false, ringFree := [], filled := [] }
  s.withRemap { s.remap.dropPending with flush := none, load := none }

end Sys2Proof.Machine
end

