-- ==== Sys2Proof/Machine/Pages.lean ====
section
/-! DEFINITION. Chapter 9: line requests and their transforms, underruns, the read position, the ends of pages and the
orphan jobs. -/

namespace Sys2Proof.Machine

/-! ### Lines (R172, R173) -/

/-- The bits of a byte in reverse order (R172). -/
def reverseByte (b : Byte) : Byte := b.reverse

/-- A data line transformed by the active settings: mirror reverses the bytes and the bits of each, invert complements
every bit (R172). -/
def transformLine (r : RecorderSettings) (line : List Byte) : List Byte :=
  let line := if r.mirror then line.reverse.map reverseByte else line
  if r.invert then line.map fun b => ~~~b else line

/-- A line of zero bytes. -/
def blankLine (len : Nat) : List Byte := List.replicate len 0

/-- The bytes of the active page from a position on, drawn from the filled slots in byte order (R172). -/
def State.pageBytes (pos len : Nat) (s : State) : List Byte :=
  (List.range len).map fun i =>
    match s.stream.filledSlot .active ((pos + i) / 1024) with
    | some slot => s.sram.read (slotBase slot + (pos + i) % 1024)
    | none => 0

/-- Whether every sector covering a run of bytes of the active page is filled (R172). -/
def Stream.covers (t : Stream) (pos len : Nat) : Bool :=
  (List.range ((pos + len - 1) / 1024 + 1 - pos / 1024)).all fun i => (t.filledSlot .active (pos / 1024 + i)).isSome

/-- How a line counts (R172). -/
inductive LineKind where
  | data | fill | killed
  deriving DecidableEq, Repr

/-- The fill line of a policy (R173). -/
def fillLine (policy : Fill) (p : Page) : List Byte :=
  match policy with
  | .white | .abort => blankLine p.lineLen
  | .black => List.replicate p.lineLen 255
  | .repeatLast => p.lastLine.getD (blankLine p.lineLen)

/-! ### Jobs and slots of a page -/

/-- Whether a job is a stream job of a place. -/
def Job.streamOf (place : Place) (j : Job) : Bool := j.isStream && decide (j.page.map Prod.fst = some place)

/-- The stream jobs of a page are removed, ending CANCELLED, and its filled slots become free in the ring (R173, R175,
R177); the jobs' slots go first, oldest job first (DESIGN CHOICE, assumption 44). -/
def State.clearPage (place : Place) (s : State) : State :=
  (s.endJobs (Job.streamOf place) .cancelled).freeFilled fun x => decide (x.place = place)

/-- The fetch pointer moves off the active page (R173, R177; assumptions 17 and 43). -/
def State.fetchOff (s : State) : State := s.withStream { s.stream with fetch := s.stream.fetchOffActive }

/-- The active page is abandoned (R173). -/
def State.abandon (s : State) : State :=
  ((s.updatePage .active fun p => { p with abandoned := true }).clearPage .active).fetchOff

/-! ### The ends of pages (R175, R177, R178, R180) -/

/-- The PAGE DONE record of a page (R175). -/
def Page.doneRecord (p : Page) (o : PageOutcome) : Record :=
  .pageDone p.pageId o p.lines p.fillLines p.killedLines p.failedSectors

/-- The pending page's sectors become the active page's. -/
def Place.promote : Place → Place
  | .pending => .active
  | x => x

/-- The pending page becomes the active page in WAITING, if there is one: read position 0, idle line length its L
(R175 step 4, R177 step 4). With no pending page the read position stays where the page that ended left it, which both
rules leave unsaid after an EDGE kill (assumption 34). -/
def State.promote (s : State) : State :=
  match s.stream.pendingPage with
  | some q =>
      let s := s.withStream { s.stream with
        active := some q, pendingPage := none, readPos := 0, idleLen := q.lineLen, startTest := false
        filled := s.stream.filled.map fun x => { x with place := x.place.promote }
        fetch := s.stream.fetch.map fun f => (f.1.promote, f.2) }
      s.withJobs (s.jobs.map fun j => { j with page := j.page.map fun p => (p.1.promote, p.2) })
  | none => s.withStream { s.stream with active := none }

/-- The active page ends at its last line (R175). -/
def State.finishPage (s : State) : State :=
  match s.stream.active with
  | some p =>
      let s := (s.emit .pageEnd).withStream { s.stream with pageReady := false }
      let s := (s.clearPage .active).fetchOff
      let s := s.compose (p.doneRecord (if p.fillLines = 0 then .complete else .underrun))
      s.promote.releaseRing
  | none => s

/-- The PLAYING page ends KILLED (R177). -/
def State.killPage (s : State) : State :=
  match s.stream.active with
  | some p =>
      let s := s.withStream { s.stream with pageReady := false }
      let s := (s.clearPage .active).fetchOff
      (s.compose (p.doneRecord .killed)).promote.releaseRing
  | none => s

/-- PAGE DONE is composed for the active page and then for the pending page (R178, R180). -/
def State.composePages (o : PageOutcome) (s : State) : State :=
  let s := match s.stream.active with | some p => s.compose (p.doneRecord o) | none => s
  match s.stream.pendingPage with
  | some q => s.compose (q.doneRecord o)
  | none => s

/-- Both pages are gone: PAGE READY dropped, no fetch pointer, read position 0 (R178, R180, R183). -/
def Stream.withoutPages (t : Stream) : Stream :=
  { t with active := none, pendingPage := none, fetch := none, readPos := 0, pageReady := false, startTest := false }

/-- The pages end by removal or a fault (R180); the discard of the jobs releases the ring. -/
def State.abortPages (o : PageOutcome) (s : State) : State :=
  let s := s.composePages o
  s.withStream s.stream.withoutPages

/-- STOP PLAY ends both pages and makes their stream jobs orphans (R178). -/
def State.stopPages (s : State) : State :=
  if s.stream.active.isNone ∧ s.stream.pendingPage.isNone then s
  else
    let s := s.composePages .stopped
    let s := (s.freeFilled fun _ => true).withJobs
      (s.jobs.map fun j => if j.isStream then { j with page := j.page.map fun p => (Place.orphan, p.2) } else j)
    (s.withStream s.stream.withoutPages).releaseRing

/-- The remaining orphans are removed, ending CANCELLED (R178), oldest first (DESIGN CHOICE, assumption 44). -/
def State.removeOrphans (s : State) : State := (s.endJobs Job.isOrphan .cancelled).releaseRing

/-! ### The read position (R174) -/

/-- Whether a sector lies wholly behind a read position (R174). -/
def wholyBehind (pos sector : Nat) : Bool := decide (1024 * (sector + 1) ≤ pos)

/-- The read position advances, and what lies wholly behind it is freed, removed or passed over (R174): the filled slots first,
then the jobs' by its steps 1 and 2, the oldest job's first (DESIGN CHOICE, assumption 44). -/
def State.advanceRead (s : State) : State :=
  match s.stream.active with
  | some p =>
      let pos := s.stream.readPos + p.lineLen
      let s := s.withStream { s.stream with readPos := pos }
      let s := s.freeFilled fun x => decide (x.place = .active) && wholyBehind pos x.sector
      let s := s.endJobs (fun j => j.streamOf .active && (j.page.any fun q => wholyBehind pos q.2)) .cancelled
      match s.stream.fetch with
      | some (.active, k) =>
          if wholyBehind pos k then
            s.withStream { s.stream with
              fetch := if pos / 1024 < p.sectors then some (.active, pos / 1024) else s.stream.fetchPending }
          else s
      | _ => s
  | none => s

/-! ### Line requests (R171 to R175) -/

/-- A line is emitted for the PLAYING page: it becomes the last line, the counters rise, the read position advances
(R172, R174), and after the Nth line the page ends (R175). -/
def State.pageLine (kind : LineKind) (line : List Byte) (s : State) : State :=
  let s := s.emit (.line line)
  let s := s.updatePage .active fun p =>
    { p with lines := p.lines + 1, lastLine := some line
             fillLines := p.fillLines + (if kind = .fill then 1 else 0)
             killedLines := p.killedLines + (if kind = .killed then 1 else 0) }
  let s := s.advanceRead
  match s.stream.active with
  | some p => if p.lineCount ≤ p.lines then s.finishPage else s
  | none => s

/-- A line request while a page is PLAYING (R172, R173, R176). -/
def State.playLine (p : Page) (s : State) : State :=
  if s.cfg.killMode = .level ∧ s.stream.killLevel = true then s.pageLine .killed (blankLine p.lineLen)
  else if p.abandoned then s.pageLine .fill (blankLine p.lineLen)
  else if s.stream.covers s.stream.readPos p.lineLen then
    s.pageLine .data (transformLine s.stream.inForce (s.pageBytes s.stream.readPos p.lineLen))
  else
    let line := fillLine s.stream.inForce.fill p
    let s := s.raise .underrun
    let s := if s.stream.inForce.fill = .abort then s.abandon else s
    s.pageLine .fill line

/-- A line request: the next line of the PLAYING page, or an idle line, after which the start of a WAITING page is to be
tested (R170, R171, R172). -/
def State.lineRequest (s : State) : State :=
  match s.stream.active with
  | some p =>
      if p.started then s.playLine p
      else
        let s := s.emit (.line (blankLine s.stream.idleLen))
        s.withStream { s.stream with startTest := true }
  | none => s.emit (.line (blankLine s.stream.idleLen))

/-- The page-start test: where the start condition holds, the settings are copied, the page is PLAYING and PAGE READY
asserted (R170). -/
def State.testStart (s : State) : State :=
  if s.stream.waiting = true ∧ s.startCondition = true then
    s.withStream { s.stream with
      active := s.stream.active.map fun p => { p with started := true }
      inForce := s.stream.staged, pageReady := true, startTest := false }
  else s.withStream { s.stream with startTest := false }

end Sys2Proof.Machine
end

