-- ==== Sys2Proof/Machine/Claims.lean ====
section
/-! DEFINITION. The claims on the job table (R46) and the wait of a flush for its slots (R40): when each is due, what
meeting it does, and `State.meetClaims`, which meets every one that an act within an event has made due. -/

namespace Sys2Proof.Machine

/-! ### The flush's slots and its claims (R40, R154) -/

/-- A waiting flush takes its slots when the free pool holds 17 (R40, R154), unless it has failed (R156). -/
def State.flushSlotsDue (s : State) : Bool := s.flushWaits && decide (mapSectors ≤ s.pool.length) && !s.flushFailed

/-- The flush takes its 17 slots: the generation rises, the snapshot is made, sectors 0–15 are claimed; a claim is not
made while the inhibit set holds a reason (R154). -/
def State.flushTakes (s : State) : State :=
  let generation := s.remap.generation + 1
  let images := mapImage s.remap.entries generation
  let slots := s.pool.take mapSectors
  let s := (images.zip slots).foldl (fun s p => s.fillSlot p.2 (fieldBytes (.image p.1))) s
  let s := s.withPool (s.pool.drop mapSectors)
  let s := (s.withRemap { s.remap with generation := generation }).updateFlush fun f =>
    { f with phase := .writing0to15, sectors := slots.map .waiting, images := images, stale := false }
  if s.sup.inhibit = [] then s else s.withdrawFlushClaims

/-- The first map sector the flush claims an entry for, with its slot (R46, R154). -/
def State.mapClaim (s : State) : Option (Nat × Slot) :=
  s.remap.flush.bind fun f => f.claims.head?.bind fun k =>
    match f.sectors[k]? with
    | some (.waiting slot) => some (k, slot)
    | _ => none

/-- The flush's claim is met by a free entry that the stream fetcher does not claim, while the inhibit set is empty
(R46, R154); a flush that has failed withdraws its claims (R156). -/
def State.mapClaimDue (s : State) : Bool :=
  s.mapClaim.isSome && decide (0 < s.freeEntries) && decide (s.sup.inhibit = []) && !s.streamClaim && !s.flushFailed

/-- The MAP WRITE job of the claimed sector is created (R154). -/
def State.mapClaimMet (s : State) : State :=
  match s.mapClaim with
  | some (k, slot) =>
      (s.updateFlush fun f => { f with sectors := f.sectors.set k .writing }).createJob []
        (newJob s.cfg .map .mapWrite none (mapPsa k) (some slot) true false none)
  | none => s

/-- A failed flush has something to do: MAP WRITE FAILED has not entered the set, or all 17 sectors have recorded a
result (R156). -/
def State.flushFailsDue (s : State) : Bool :=
  s.remap.flush.any fun f => f.anyFailed && (!s.sup.inhibit.contains .mapWriteFailed || f.allRecorded)

/-! ### The stream fetcher's claim (R167) -/

/-- The LSN of a page sector (R164). -/
def Stream.lsnOf (t : Stream) (place : Place) (sector : Nat) : Option Nat := (t.pageAt place).map fun p => p.startLsn + sector

/-- The fetcher's claim is met by a free entry (R46, R167). -/
def State.streamClaimDue (s : State) : Bool := s.streamClaim && decide (0 < s.freeEntries)

/-- A STREAM READ job is created for the page sector the fetch pointer names, in a free ring slot, and the fetch pointer
advances (R167). -/
def State.streamClaimMet (s : State) : State :=
  match s.stream.fetch, s.stream.ringFree with
  | some (place, k), slot :: rest =>
      match s.stream.lsnOf place k with
      | some lsn =>
          let mk := newJob s.cfg .stream .streamRead (some lsn) (s.effective lsn) (some slot) false false (some (place, k))
          let s := s.withStream { s.stream with ringFree := rest, fetch := s.stream.advanceFetch }
          s.createJob [] mk
      | none => s.withStream { s.stream with fetch := none }
  | _, _ => s

/-! ### At once (R40, R46) -/

/-- The first claim that is due is met: the slots of a flush, the stream fetcher's claim, the flush's claim (R40, R46). -/
def State.claimStep (s : State) : Option State :=
  if s.flushSlotsDue then some s.flushTakes
  else if s.streamClaimDue then some s.streamClaimMet
  else if s.mapClaimDue then some s.mapClaimMet
  else none

/-- Due claims met one after another, at most the given number. -/
def State.meetWithin : Nat → State → State
  | 0, s => s
  | n + 1, s =>
      match s.claimStep with
      | some s' => State.meetWithin n s'
      | none => s

/-- More claims than can be met at one moment: each but the first takes one of the 256 entries. -/
def claimBound : Nat := 512

/-- What an act within an event has freed goes at once to the claims that wait for it, before the event goes on: slots
to a waiting flush, entries and ring slots to the fetcher, then to the flush (R40, R46, R167). -/
def State.meetClaims (s : State) : State := State.meetWithin claimBound s

end Sys2Proof.Machine
end

