-- ==== Sys2Proof/Machine/Magnet.lean ====
section
/-! DEFINITION. Chapter 6: flip requests, settling, the failed flip, and the mount's magnet leg they finish. -/

namespace Sys2Proof.Machine

/-- The mount context changes. -/
def State.updateMountCtx (f : MountContext → MountContext) (s : State) : State :=
  s.withSup { s.sup with mountCtx := s.sup.mountCtx.map f }

/-- A leg that ends in failure is the mount's reason if none is recorded yet (R20). -/
def MountContext.note (r : Option Reason) (m : MountContext) : MountContext :=
  { m with reason := m.reason.or r }

/-- Whether a mount is in MAPPING with its context, so that the magnet leg can finish (R20, R115, R116). -/
def State.magnetLegOpen (s : State) : Bool := decide (s.sup.mount = .mapping) && s.sup.mountCtx.isSome

/-- The magnet leg of a mount in MAPPING has finished, in FAULT or settled (R20, R115, R116). -/
def State.magnetLegEnds (inFault : Bool) (s : State) : State :=
  if s.magnetLegOpen then
    s.updateMountCtx fun m => { m with magnetLeg := true }.note (if inFault then some .magnetFault else none)
  else s

/-- The magnet state of a flip toward a polarity (R114). -/
def Polarity.moving : Polarity → MagnetState
  | .erase => .toErase
  | .write => .toWrite

/-- The magnet state settled in a polarity (R115). -/
def Polarity.settled : Polarity → MagnetState
  | .erase => .erase
  | .write => .write

/-- Whether a flip request toward a polarity is taken (R114). -/
def Magnet.takes (m : Magnet) (p : Polarity) : Bool :=
  match m.state with
  | .unset => true
  | .erase => p == .write
  | .write => p == .erase
  | .toErase | .toWrite | .fault => false

/-- A flip request; one that is not taken changes nothing (R114). -/
def State.requestFlip (p : Polarity) (s : State) : State :=
  if s.magnet.takes p then
    s.withMagnet { s.magnet with coil := some p, senseAgreed := false, flipRunning := true, flipExpired := false,
                                 settleTimer := true, state := p.moving }
  else s

/-- A flip in progress toward a polarity settles (R115); a settle in ERASE during a mount takes MAGNET FAULT out of
the inhibit set (R20). -/
def State.settleFlip (p : Polarity) (s : State) : State :=
  let s := (s.withMagnet { s.magnet with settleTimer := false, state := p.settled }).magnetLegEnds false
  if p = .erase ∧ s.magnetLegOpen = true then s.removeInhibit .magnetFault else s

/-- The polarity a sense report names. -/
def senseNames : Sense → Option Polarity
  | .erase => some .erase
  | .write => some .write
  | .none => none

/-- A magnet-sense report (R113). -/
def State.senseReport (v : Sense) (s : State) : State :=
  let s := s.withMagnet { s.magnet with lastSense := v }
  match s.magnet.movingToward with
  | some p =>
      if senseNames v = some p then
        let s := s.withMagnet { s.magnet with senseAgreed := true }
        if s.magnet.flipExpired then s.settleFlip p else s
      else s.withMagnet { s.magnet with senseAgreed := false }
  | none => s

/-- The flip timer expires while it runs (R115). -/
def State.flipTimerExpires (s : State) : State :=
  if s.magnet.flipRunning then
    let s := s.withMagnet { s.magnet with flipRunning := false, flipExpired := true }
    match s.magnet.movingToward with
    | some p => if s.magnet.senseAgreed then s.settleFlip p else s
    | none => s
  else s

/-- The settle timeout expires while a flip is in progress: the flip has failed (R116). -/
def State.settleTimeoutExpires (s : State) : State :=
  if s.magnet.settleTimer ∧ s.magnet.movingToward.isSome then
    let s := s.withMagnet { s.magnet with flipRunning := false, settleTimer := false, coil := none, state := .fault }
    ((s.raise .magnetFault).addInhibit .magnetFault).magnetLegEnds true
  else s

/-- The controller goes to UNSET (R118); the last sense is kept. -/
def Magnet.unset (m : Magnet) : Magnet :=
  { m with state := .unset, coil := none, flipRunning := false, flipExpired := false, settleTimer := false,
           senseAgreed := false }

end Sys2Proof.Machine
end

