-- ==== Sys2Proof/Machine/Planning.lean ====
section
/-! DEFINITION. Chapter 4: what each job asks of the head, the index decision in its stages, the elevator, seeks and
flips with seeks, failures to reach a track, and giving up on one. -/

namespace Sys2Proof.Machine

/-! ### What each job asks of the head (R66) -/

/-- The next action of a job; none for a HELD job and for a HOST WRITE that waits for its data (R66). -/
def Job.nextAction (j : Job) : Option Action :=
  match j.kind, j.phase with
  | _, .held => none
  | .hostRead, .needRead | .streamRead, .needRead | .mapRead, .needRead => some .read
  | .hostWrite, .needErase | .hostErase, .needErase | .refresh, .needErase | .mapWrite, .needErase => some .erase
  | .hostWrite, .erased | .refresh, .erased | .mapWrite, .erased => if j.dataPresent then some .write else none
  | .hostErase, .erased => some .blankCheck
  | .hostWrite, .written | .refresh, .written | .mapWrite, .written => some .verify
  | _, _ => none

/-- The polarity an action needs (R66, R80). -/
def Action.polarity : Action → Option Polarity
  | .erase => some .erase
  | .write => some .write
  | .read | .verify | .blankCheck => none

/-- The polarity need of a job (R66). -/
def Job.need (j : Job) : Option Polarity := j.nextAction.bind Action.polarity

/-- A job is workable when it is not HELD and does not wait for data (R66). -/
def Job.workable (j : Job) : Bool := j.nextAction.isSome

/-- Whether a job is HELD. -/
def Job.isHeld (j : Job) : Bool := decide (j.phase = .held)

/-- The unfilled stream job: the oldest STREAM READ in NEED READ (R71, R74). -/
def State.unfilledStreamJob (s : State) : Option Job := s.jobs.find? fun j => j.isStream && decide (j.phase = .needRead)

/-! ### Seeks (R67, R84) -/

/-- The write-type jobs that are not HELD (R77, R84). -/
def State.openWriters (s : State) : List Job := s.jobs.filter fun j => j.kind.writeType && !j.isHeld

/-- The flip check made when a seek to a track is issued (R84). -/
def State.flipWithSeek (d : Nat) (s : State) : State :=
  match s.magnet.settled with
  | some p =>
      let needing := s.openWriters.filter fun j => j.need.isSome
      let there := needing.filter fun j => decide (j.target.track = d)
      if !there.isEmpty && there.all (fun j => decide (j.need = some p.other))
          && needing.all (fun j => decide (j.need ≠ some p)) then
        s.requestFlip p.other
      else s
  | none => s

/-- The planner issues a seek to a track (R67). -/
def State.issueSeek (t : Nat) (s : State) : State :=
  let failures := if s.planner.target = some t then s.planner.failures else 0
  let s := s.emit (.seek t)
  let s := s.withPlanner { s.planner with
    failures := failures, seekTimer := true, target := some t, current := none, head := .seeking, plan := none }
  s.flipWithSeek t

/-- The seek choice of UNPOSITIONED (R71). -/
def State.seekChoice (s : State) : State :=
  let urgentJob := if s.urgent then s.unfilledStreamJob else none
  match urgentJob with
  | some j => s.issueSeek j.target.track
  | none =>
      match s.jobs.find? Job.workable with
      | some j => s.issueSeek j.target.track
      | none => s

/-- The head becomes UNPOSITIONED, and a track is sought at once where there is work (R71). -/
def State.becomeUnpositioned (s : State) : State :=
  (s.withPlanner { s.planner with head := .unpositioned, current := none, target := none, plan := none }).seekChoice

/-! ### The index decision (R74 to R79) -/

/-- The candidates on a track, oldest first (R75). -/
def State.candidates (t : Nat) (s : State) : List Job := s.jobs.filter fun j => !j.isHeld && decide (j.target.track = t)

/-- An action joins a plan unless its sector already carries one (R78, R80). -/
def place (plan : List Planned) (a : Planned) : List Planned :=
  if plan.any fun b => b.sector == a.sector then plan else plan ++ [a]

/-- The actions of candidates whose next action passes a test, placed oldest first. -/
def placeAll (want : Action → Bool) (jobs : List Job) (plan : List Planned) : List Planned :=
  jobs.foldl (fun plan j =>
    match j.nextAction with
    | some a => if want a then place plan { sector := j.target.sector, action := a, job := j.id } else plan
    | none => plan) plan

/-- Stage 3: the polarity of the mutating actions, if any are planned (R76). -/
def mutatingChoice (inhibit : List Inhibit) (settled : Option Polarity) (cands : List Job) : Option Polarity :=
  match settled with
  | some p => if inhibit = [] ∧ cands.any (fun j => decide (j.need = some p)) = true then some p else none
  | none => none

/-- The flip asked at the index, by stage 3 for a candidate or by stage 4 in advance, where no mutating action is
planned (R76, R77). -/
def flipAtIndex (mutating settled : Option Polarity) (cands writers : List Job) : Option Polarity :=
  match mutating, settled with
  | none, some p =>
      if cands.any (fun j => decide (j.need = some p.other)) then some p.other
      else if writers.all (fun j => decide (j.need ≠ some p)) && writers.any (fun j => decide (j.need = some p.other)) then
        some p.other
      else none
  | _, _ => none

/-- The elevator's choice: the next track and the sweep direction afterwards (R82). -/
def elevator (sweep : Sweep) (t : Nat) (tracks : List Nat) : Option Nat × Sweep :=
  let above := (tracks.filter (t < ·)).min?
  let below := (tracks.filter (· < t)).max?
  match sweep with
  | .outward =>
      match above with
      | some x => (some x, .outward)
      | none => (below, .inward)
  | .inward =>
      match below with
      | some x => (some x, .inward)
      | none => (above, .outward)

/-- Stage 6 where there is nothing to do on the track: the elevator seeks the next one, or the head stays SETTLED
(R79, R82). -/
def State.moveOn (t : Nat) (s : State) : State :=
  let tracks := (s.jobs.filter Job.workable).map fun j => j.target.track
  let choice := elevator s.planner.sweep t tracks
  let s := s.withPlanner { s.planner with sweep := choice.2, head := .settled, plan := none }
  match choice.1 with
  | some d => s.issueSeek d
  | none => s

/-- The decision of the next revolution on a track, stages 1 to 6 (R74 to R79). -/
def State.planRevolution (t : Nat) (s : State) : State :=
  let away := if s.urgent then (s.unfilledStreamJob.map fun j => j.target.track).filter (· ≠ t) else none
  match away with
  | some d => s.issueSeek d
  | none =>
      let cands := s.candidates t
      let settled := s.magnet.settled
      let mutating := mutatingChoice s.sup.inhibit settled cands
      let muts := match mutating with
        | some p => placeAll (fun a => decide (a.polarity = some p)) cands []
        | none => []
      let s := match flipAtIndex mutating settled cands s.openWriters with
        | some p => s.requestFlip p
        | none => s
      let actions := placeAll (fun a => decide (a.polarity = none)) cands muts
      let plan : Plan := { track := t, zone := trackZone t, mutating := mutating, actions := actions }
      let idle := match s.magnet.movingToward with
        | some p => cands.any fun j => decide (j.need = some p)
        | none => false
      if actions ≠ [] ∨ idle = true then s.withPlanner { s.planner with head := .revolving, plan := some plan }
      else s.moveOn t

/-! ### Failures to reach a track (R69, R70) -/

/-- How the planner deals with one job of a track it gives up on (R70). -/
def State.giveUpJob (s : State) (id : JobId) : State :=
  match s.job? id with
  | some j =>
      match j.kind with
      | .hostRead | .streamRead | .mapRead | .mapWrite => s.endJob j (.failed .seekFault)
      | .hostWrite | .hostErase | .refresh => s.reassign id
  | none => s

/-- The planner gives up on a track: its jobs are dealt with one by one, oldest first, and what each of them frees goes at
once to a waiting flush and to the claims, before the next is dealt with (R40, R46, R70; assumption 2). A job that a claim
makes meanwhile is none of them, wherever its target lies (assumption 39). Where a flush so comes to its first FAILED record,
MAP WRITE FAILED enters then (R156), and its second stage, due at once because the head is not REVOLVING, follows when the
jobs of the track have been dealt with (R30; assumption 40). Then the planner plans anew from UNPOSITIONED (R71). -/
def State.giveUp (t : Nat) (s : State) : State :=
  let s := ((s.candidates t).map Job.id).foldl (fun s id => (s.giveUpJob id).meetClaims.flushFailureEnters) s
  let s := if s.secondStageDue then s.secondStageEffect.meetClaims else s
  (s.withPlanner { s.planner with seekTimer := false, recalTimer := false, failures := 0 }).becomeUnpositioned

/-- A failure to reach the target track is counted: another recalibration, or giving up at the third (R69). -/
def State.countFailure (s : State) : State :=
  let n := s.planner.failures + 1
  if n < 3 then
    (s.emit .recalibrate).withPlanner { s.planner with
      failures := n, seekTimer := false, recalTimer := true, head := .recalibrating, current := none, plan := none }
  else
    match s.planner.target with
    | some t => (s.withPlanner { s.planner with failures := n, seekTimer := false, recalTimer := false }).giveUp t
    | none =>
        (s.withPlanner { s.planner with failures := 0, seekTimer := false, recalTimer := false }).becomeUnpositioned

/-- A recalibration fails: a failure is counted, or, with no target track, the head becomes UNPOSITIONED (R69). -/
def State.recalibrationFails (s : State) : State :=
  let s := s.withPlanner { s.planner with recalTimer := false }
  if s.planner.target.isSome then s.countFailure else s.becomeUnpositioned

/-- Seek done (R68, R69): the head settles on the target, a recalibration is followed by the seek to its target or
settles on track 0; ignored in the other head states. -/
def State.seekEnds (s : State) : State :=
  match s.planner.head with
  | .seeking =>
      s.withPlanner { s.planner with
        seekTimer := false, current := s.planner.target, target := none, failures := 0, head := .settled }
  | .recalibrating =>
      let s := s.withPlanner { s.planner with recalTimer := false }
      match s.planner.target with
      | some t => s.issueSeek t
      | none => s.withPlanner { s.planner with current := some 0, failures := 0, head := .settled }
  | .stopped | .unpositioned | .settled | .revolving | .refocusing => s

/-- Seek fault (R68, R69); ignored where neither a seek nor a recalibration is in flight. -/
def State.seekFails (s : State) : State :=
  match s.planner.head with
  | .seeking => s.countFailure
  | .recalibrating => s.recalibrationFails
  | .stopped | .unpositioned | .settled | .revolving | .refocusing => s

/-- The planner goes to STOPPED; the sweep direction is kept (R72). -/
def Planner.stop (p : Planner) : Planner :=
  { p with head := .stopped, current := none, target := none, failures := 0, seekTimer := false, recalTimer := false,
           plan := none }

end Sys2Proof.Machine
end

