-- ==== Sys2Proof/Machine/Sequencing.lean ====
section
/-! DEFINITION. Chapter 5: cut-offs, the kill latch and SHOCK, the sector mark, the sector end and the reports the job
table applies. -/

namespace Sys2Proof.Machine

/-! ### Cut-offs and the kill latch (R99, R106, R108) -/

/-- The open action is cut off: a gated erase or write returns its job to NEED ERASE, with no attempt consumed
(R99). -/
def State.cutOff (s : State) : State :=
  match s.seq.openAction with
  | some o =>
      let s := s.withSeq { s.seq with openAction := none }
      match o.gated, o.job with
      | true, some id => s.updateJob id fun j => { j with phase := .needErase }
      | _, _ => s
  | none => s

/-- Whether an action is an erase or a write (R66). -/
def Action.mutates (a : Action) : Bool := a.polarity.isSome

/-- Whether the active plan holds a mutating action that is open or whose mark has not been taken (R108; assumption
16 for the sector whose mark is being taken). -/
def State.shockDue (s : State) : Bool :=
  (match s.seq.openAction with | some o => o.action.mutates | none => false)
  || (match s.planner.plan with
      | some p => p.actions.any fun a => a.action.mutates && decide (s.seq.position ≤ a.sector)
      | none => false)

/-- The kill latch is set: the open action is cut off, the laser goes OFF by R91 (R106). -/
def State.setLatch (s : State) : State :=
  let s := s.cutOff
  s.withSeq { s.seq with killLatch := true }

/-- An off-track event while the head stands on a track: SHOCK where it is due, the latch, the plan retired and the
track sought again (R86, R106, R108). -/
def State.offTrackOn (t : Nat) (s : State) : State :=
  let s := if s.shockDue then s.raise .shock else s
  s.setLatch.issueSeek t

/-! ### Reports on attempts (R94, R101 to R103) -/

/-- A failed attempt of a read-type job: attempts left falls, and at 0 the job ends FAILED (R94, R101). -/
def State.failedAttempt (reason : Reason) (idFailure : Bool) (j : Job) (s : State) : State :=
  let j' := { j with attempts := j.attempts - 1, idFailures := j.idFailures + (if idFailure then 1 else 0) }
  let s := s.updateJob j.id fun _ => j'
  if j'.attempts = 0 ∨ (idFailure = true ∧ 4 ≤ j'.idFailures) then s.endJob j' (.failed reason) else s

/-- An ID failure (R94). -/
def State.idFailure (j : Job) (s : State) : State :=
  if j.kind.writeType then
    let j' := { j with idFailures := j.idFailures + 1 }
    let s := s.updateJob j.id fun _ => j'
    if 4 ≤ j'.idFailures then
      if j.kind = .mapWrite then s.endJob j' (.failed .idNotFound) else s.reassign j.id
    else s
  else s.failedAttempt .idNotFound true j

/-- A failed verify or blank check: an attempt is consumed, and the job begins again or, at 0, is reassigned; a MAP
WRITE ends FAILED (R102, R103). -/
def State.checkFailed (j : Job) (s : State) : State :=
  let j' := { j with attempts := j.attempts - 1 }
  if j'.attempts = 0 then
    let s := s.updateJob j.id fun _ => j'
    if j.kind = .mapWrite then s.endJob j' (.failed .uncorrectable) else s.reassign j.id
  else s.updateJob j.id fun _ => { j' with phase := .needErase }

/-! ### The sector mark (R92 to R97) -/

/-- The magnet is settled in the polarity an action needs, the kill latch is clear and the inhibit set is empty
(R96). -/
def State.gateOpen (a : Action) (s : State) : Bool :=
  decide (s.magnet.settled = a.polarity) && !s.seq.killLatch && decide (s.sup.inhibit = [])

/-- The action planned for a sector. -/
def State.plannedAt (k : Nat) (s : State) : Option Planned :=
  s.planner.plan.bind fun p => p.actions.find? fun a => a.sector == k

/-- The data field a gated WRITE sends to the medium: the 1,024 bytes of its job's slot (R96). An ERASE sends none. -/
def State.sendData (a : Planned) (s : State) : State :=
  match a.action, s.job? a.job with
  | .write, some j =>
      match j.slot with
      | some slot => s.emit (.data j.target (s.slotBytes slot))
      | none => s
  | _, _ => s

/-- A planned action whose header is MATCH: gated, with the data a write sends, opened as a read action, or skipped
(R96, R97). -/
def State.openPlanned (a : Planned) (s : State) : State :=
  if a.action.mutates then
    if s.gateOpen a.action then
      let s := s.sendData a
      let s := s.withSeq { s.seq with
        openAction := some { sector := a.sector, action := a.action, job := some a.job, gated := true } }
      s.updateJob a.job fun j => { j with touched := true }
    else s
  else
    s.withSeq { s.seq with
      openAction := some { sector := a.sector, action := a.action, job := some a.job, gated := false } }

/-- The course of a planned action at its mark (R93 step 4). -/
def State.takeMark (header : Option Psa) (t : Nat) (a : Planned) (s : State) : State :=
  match classify header t a.sector with
  | .matches => s.openPlanned a
  | .otherTrack => s.offTrackOn t
  | .idError =>
      match s.job? a.job with
      | some j => s.idFailure j
      | none => s

/-- A sector mark (R92, R93). A mark beyond the track's last sector belongs to no sector; an action still open is cut
off by it all the same (assumption 15). -/
def State.sectorMark (header : Option Psa) (s : State) : State :=
  match s.planner.head, s.planner.plan with
  | .revolving, some plan =>
      let s := s.cutOff
      if s.seq.position < trackSectors plan.track then
        let k := s.seq.position
        let s :=
          match s.plannedAt k with
          | some a => s.takeMark header plan.track a
          | none => s
        s.withSeq { s.seq with position := k + 1 }
      else s
  | _, _ => s

/-! ### The sector end (R98 to R103) -/

/-- The completion of a READ (R100, R101). -/
def State.completeRead (j : Job) (o : ReadOutcome) (s : State) : State :=
  match o with
  | .uncorrectable => s.failedAttempt .uncorrectable false j
  | .good c f =>
      let s := match j.slot with | some slot => s.fillSlot slot (fieldBytes f) | none => s
      s.endJob j (.done false c (fieldMapSector f))
  | .blank =>
      let s := match j.slot with | some slot => s.fillSlot slot zeroBytes | none => s
      s.endJob j (.done true 0 none)

/-- Whether the delivered bytes equal those of a job's slot (R102). The slot of a MAP WRITE holds the bytes of a
sector image, so equal bytes are equal images (assumption 9). -/
def State.equalsSlot (j : Job) (f : Field) (s : State) : Bool :=
  if j.kind = .mapWrite then
    match s.remap.flush, fieldMapSector f with
    | some ctx, some m => decide (ctx.images[j.target.sector]? = some m)
    | _, _ => false
  else
    match j.slot with
    | some slot => decide (fieldBytes f = s.slotBytes slot)
    | none => false

/-- Whether a verify succeeds (R102). -/
def State.verifies (j : Job) (o : ReadOutcome) (s : State) : Bool :=
  match o with
  | .good c f => decide (c ≤ s.cfg.vt) && s.equalsSlot j f
  | .uncorrectable | .blank => false

/-- What a completed action does to its job (R98, R100 to R103). -/
def State.complete (a : Action) (j : Job) (o : ReadOutcome) (s : State) : State :=
  match a with
  | .erase => s.updateJob j.id fun j => { j with phase := .erased, touched := true }
  | .write => s.updateJob j.id fun j => { j with phase := .written, touched := true }
  | .read => s.completeRead j o
  | .verify => if s.verifies j o then s.endJob j (.done false 0 none) else s.checkFailed j
  | .blankCheck => if o = .blank then s.endJob j (.done true 0 none) else s.checkFailed j

/-- A sector end (R98): the open action is completed; with none open it is ignored. -/
def State.sectorEnd (o : ReadOutcome) (s : State) : State :=
  match s.planner.head, s.seq.openAction with
  | .revolving, some act =>
      let s := s.withSeq { s.seq with openAction := none }
      match act.job.bind s.job? with
      | some j => s.complete act.action j o
      | none => s
  | _, _ => s

end Sys2Proof.Machine
end

