-- ==== Sys2Proof/Machine/Supervision.lean ====
section
/-! DEFINITION. Chapter 2: mounting and unmounting, spin-down, removal, fault spin-down, and what the soft reset does
to every block. -/

namespace Sys2Proof.Machine

/-! ### Spin-down (R23) -/

/-- Entering SPINNING DOWN: STOP order, timers stopped, magnet UNSET, head STOPPED, the open action gone with its plan,
the refocus timer stopped (R23, R72, R109, R118). -/
def State.enterSpinningDown (s : State) : State :=
  let s := s.setMount .spinningDown
  let s := s.withSup { s.sup with spinUpTimer := false, indexTimer := false, secondStage := .idle }
  let s := s.withMagnet s.magnet.unset
  let s := s.withPlanner s.planner.stop
  s.withSeq { s.seq with openAction := none, refocusTimer := false }

/-- An unmount context is completed at LOADED: the tagged unmount's DONE, the EJECT order (R23 step 4). -/
def State.completeUnmount (s : State) : State :=
  match s.sup.unmountCtx with
  | some u =>
      let s := match u.tag with | some t => s.endRequest t u.result | none => s
      let s := if u.eject then s.emit .eject else s
      s.withSup { s.sup with unmountCtx := none }
  | none => s

/-- The spindle has stopped in SPINNING DOWN: LOADED, the table emptied, the media reasons gone, the unmount completed
(R23, R160). -/
def State.reachLoaded (s : State) : State :=
  let s := s.setMount .loaded
  let s := s.withRemap s.remap.emptied
  s.dropMediaInhibits.completeUnmount

/-- A failed spin-up (R19). -/
def State.spinUpFails (s : State) : State :=
  let s := s.raise .spindleFault
  let s := match s.sup.mountCtx with | some m => s.abortRequest .spindleFault m.tag | none => s
  (s.withSup { s.sup with mountCtx := none }).enterSpinningDown

/-! ### Faults and removal (R25, R27) -/

/-- The two reasons of a fault spin-down (R27). -/
inductive SpinFault where
  | spindle | head
  deriving DecidableEq, Repr

def SpinFault.reason : SpinFault → Reason
  | .spindle => .spindleFault
  | .head => .headFault

def SpinFault.pageOutcome : SpinFault → PageOutcome
  | .spindle => .spindleFault
  | .head => .headFault

def SpinFault.condition : SpinFault → Condition
  | .spindle => .spindleFault
  | .head => .headFault

/-- The mount and unmount contexts are discarded. -/
def State.dropContexts (s : State) : State := s.withSup { s.sup with mountCtx := none, unmountCtx := none }

/-- A fault spin-down (R27). -/
def State.faultSpinDown (f : SpinFault) (s : State) : State :=
  let s := s.abortRequests f.reason
  let s := s.abortPages f.pageOutcome
  let s := s.discardJobs.dropContexts
  (s.raise f.condition).enterSpinningDown

/-- Removal while the part held work for the cartridge (R25, last case). -/
def State.removeMedium (s : State) : State :=
  let s := s.abortRequests .mediumRemoved
  let s := s.abortPages .mediumRemoved
  let s := s.discardJobs
  let s := s.withRemap s.remap.emptied
  let s := s.enterSpinningDown.dropMediaInhibits.dropContexts
  (s.setMount .empty).raise .cartridgeRemoved

/-! ### Mounting (R17, R18, R20) -/

/-- The jobs of the map leg are created together, one for each map sector (R150). -/
def State.createMapReads (s : State) : State :=
  (List.range mapSectors).foldl (fun s k =>
    s.createJob [] (newJob s.cfg .map .mapRead none (mapPsa k) none false false none)) s

/-- Spindle at speed in SPINNING UP (R18, R72, R150). -/
def State.startMapping (s : State) : State :=
  let s := s.setMount .mapping
  let s := s.withSup { s.sup with spinUpTimer := false, indexTimer := true }
  let s := s.withRemap { s.remap with status := .loading, load := some (List.replicate mapSectors none) }
  (s.createMapReads.issueSeek mapTrack).requestFlip .erase

/-- The map leg of a mount has finished (R20). -/
def State.mapLegEnds (damaged : Bool) (s : State) : State :=
  s.updateMountCtx fun m => { m with mapLeg := true }.note (if damaged then some .mapDamaged else none)

/-- The load decision (R151). -/
def State.decideLoad (results : List LoadResult) (s : State) : State :=
  let base := { s.remap with dirty := false, fullMark := false, load := none }
  match loadDecision results with
  | .emptyMap => (s.withRemap { base with entries := [], generation := 0, status := .loaded }).mapLegEnds false
  | .loaded es g => (s.withRemap { base with entries := es, generation := g, status := .loaded }).mapLegEnds false
  | .damaged =>
      ((s.withRemap { base with entries := [], generation := 0, status := .damaged }).addInhibit .mapDamaged).mapLegEnds
        true

/-- Mount completion (R20). -/
def State.completeMount (m : MountContext) (s : State) : State :=
  let s := s.sampleTab.setMount .ready
  let s := s.powerAtMount
  let s := s.withRemap { s.remap with cursor := .start }
  let s := s.endRequest m.tag m.reason
  s.withSup { s.sup with mountCtx := none }

/-! ### Unmounting (R21, R22, R24) -/

/-- Whether a request is a WRITE in OPEN with a job that still lacks its data (R21). -/
def State.lacksData (s : State) (r : Request) : Bool :=
  decide (r.kind = .write) && decide (r.state = .opened)
    && s.jobs.any fun j => decide (j.owner = .tag r.tag) && !j.dataPresent

/-- An unmount begins: the context, UNMOUNTING, and the cancel of every WRITE that still lacks data (R21). -/
def State.beginUnmount (tag : Option Nat) (eject : Bool) (s : State) : State :=
  let s := s.setMount .unmounting
  let s := s.withSup { s.sup with unmountCtx := some { tag := tag, eject := eject, result := none } }
  s.withRequests (s.requests.map fun r => if s.lacksData r then { r with state := .cancelling } else r)

/-- A flush begins: its context, waiting for slots (R154). -/
def State.beginFlush (owner : Option Nat) (s : State) : State :=
  s.withRemap { s.remap with
    flush := some { owner := owner, phase := .waitingForSlots, sectors := List.replicate mapSectors .noSlot
                    images := [], stale := false } }

/-- The unmount records a result (R22). -/
def State.unmountResult (r : Reason) (s : State) : State :=
  s.withSup { s.sup with unmountCtx := s.sup.unmountCtx.map fun u => { u with result := some r } }

/-- What the supervisor decides when the J218 is drained (R22). -/
def State.decideDrained (s : State) : State :=
  if s.remap.dirty then
    if s.sup.inhibit = [] then (s.setMount .flushing).beginFlush none
    else (s.unmountResult .writeInhibited).enterSpinningDown
  else s.enterSpinningDown

/-! ### Soft reset, block by block (R34, R64, R89, R111, R120, R140, R162, R183) -/

/-- The planner at a soft reset (R89). -/
def Planner.softReset (p : Planner) : Planner :=
  let p := { p with failures := 0, plan := none }
  match p.head with
  | .revolving => { p with head := .settled }
  | .recalibrating => { p with target := none }
  | .stopped | .unpositioned | .settled | .seeking | .refocusing => p

/-- The sequencer at a soft reset; the refocus timer runs on (R111). -/
def Sequencer.softReset (q : Sequencer) : Sequencer := { q with killLatch := false, position := 0, openAction := none }

/-- The remap table at a soft reset (R162). -/
def Remap.softReset (r : Remap) : Remap := { r.dropPending with flush := none, load := none, cursor := .start }

/-- The stream fetcher and recorder port at a soft reset (R183). -/
def Stream.softReset (t : Stream) : Stream := { t.withoutPages with reserved := false, ringFree := [], filled := [] }

/-- The mount state at a soft reset (R34). -/
def State.softResetMount (s : State) : State :=
  let s := s.dropContexts
  let s := s.withSup { s.sup with secondStage := .idle }
  match s.sup.mount with
  | .spinningUp | .mapping => s.enterSpinningDown
  | .unmounting | .flushing => s.setMount .ready
  | .empty | .loaded | .ready | .spinningDown => s

/-- Every block's soft reset (R196 step 2). -/
def State.softReset (s : State) : State :=
  let s := ((s.withRequests []).withJobs []).withPool allSlots
  let s := s.withPlanner s.planner.softReset
  let s := s.withSeq s.seq.softReset
  let s := s.withPower { s.power with sticky := .clear }
  let s := s.withRemap s.remap.softReset
  (s.withStream s.stream.softReset).softResetMount

end Sys2Proof.Machine
end

