-- ==== Sys2Proof/Machine/Steps.lean ====
section
/-! DEFINITION. The part's own internal steps: for each of them, when it is due and what it does. The rows of
spec/opcode_table.json for these steps are the commands of the same names; `Settle.lean` takes the due ones in
order. -/

namespace Sys2Proof.Machine

/-! ### Cancels (R56, R57) -/

/-- Whether a request in CANCELLING still has jobs in the table (R56). -/
def State.cancelPending (s : State) (r : Request) : Bool :=
  decide (r.state = .cancelling) && s.jobs.any fun j => decide (j.owner = .tag r.tag)

/-- The tags whose cancel has not yet removed its jobs. R57 orders the jobs of one request and no rule the cancels of
several that take effect together: the order of the request table is the model's choice (assumption 36). -/
def State.pendingCancels (s : State) : List Nat := (s.requests.filter s.cancelPending).map Request.tag

/-- A cancel takes effect at once while the head is not REVOLVING (R56). -/
def State.cancelDue (tag : Nat) (s : State) : Bool :=
  decide (s.planner.head ≠ .revolving) && s.pendingCancels.contains tag

/-- The cancel of a tag takes effect: its jobs still in the table are removed, oldest first (R57). -/
def State.cancelEffect (s : State) (tag : Nat) : State := s.endJobs (fun j => decide (j.owner = .tag tag)) .cancelled

/-- The first tag whose cancel is due. -/
def State.firstCancel (s : State) : Option Nat := s.pendingCancels.find? fun t => s.cancelDue t

/-! ### Orphans (R178) -/

/-- Orphans are removed at once while the head is not REVOLVING (R178). -/
def State.orphansDue (s : State) : Bool := decide (s.planner.head ≠ .revolving) && s.jobs.any Job.isOrphan

/-! ### The map load and the mount (R20, R151) -/

/-- The 17 results of the load, once all are recorded (R151). -/
def State.loadResults (s : State) : Option (List LoadResult) :=
  match s.remap.load with
  | some rs => if rs.all Option.isSome then some (rs.filterMap id) else none
  | none => none

/-- The load decision is due when the seventeenth result is recorded (R151). -/
def State.loadDue (s : State) : Bool := s.loadResults.isSome

/-- The load decision on the recorded results. -/
def State.loadEffect (s : State) : State :=
  match s.loadResults with
  | some rs => s.decideLoad rs
  | none => s

/-- A mount completes when both its legs have finished (R20). -/
def State.mountDue (s : State) : Bool :=
  decide (s.sup.mount = .mapping) && s.sup.mountCtx.any fun m => m.mapLeg && m.magnetLeg

/-- The completion of the mount in progress. -/
def State.mountEffect (s : State) : State :=
  match s.sup.mountCtx with
  | some m => s.completeMount m
  | none => s

/-! ### The drained condition (R22) -/

/-- Whether a request is the unmount's own. -/
def State.isUnmountRequest (s : State) (r : Request) : Bool :=
  s.sup.unmountCtx.any fun u => decide (u.tag = some r.tag)

/-- The drained condition in UNMOUNTING (R22). -/
def State.drainedDue (s : State) : Bool :=
  decide (s.sup.mount = .unmounting) && s.requests.all (fun r => !r.live || s.isUnmountRequest r)
    && s.stream.active.isNone && s.stream.pendingPage.isNone && s.jobs.isEmpty

/-! ### The flush (R154 to R156) -/

/-- The flush succeeds when all 17 sectors have recorded DONE (R155). -/
def State.flushSucceedsDue (s : State) : Bool := s.remap.flush.any fun f => decide (f.phase ≠ .waitingForSlots) && f.allDone

/-- The flush ends: its context is discarded and its owner is told; an unmount goes on to spin-down with the result
(R22, R155, R156). -/
def State.endFlush (f : FlushContext) (result : Option Reason) (s : State) : State :=
  let s := s.withRemap { s.remap with flush := none }
  match f.owner with
  | some tag => s.endRequest tag none
  | none => (match result with | some r => s.unmountResult r | none => s).enterSpinningDown

/-- The success of a flush: the dirty flag is cleared unless the stale mark is set (R155). -/
def State.flushSucceedsEffect (s : State) : State :=
  match s.remap.flush with
  | some f => (s.withRemap { s.remap with dirty := s.remap.dirty && f.stale }).endFlush f none
  | none => s

/-- The failure of a flush: the effects of its first FAILED record, and, with 17 results, its end (R156). -/
def State.flushFailsEffect (s : State) : State :=
  let s := s.flushFailureEnters
  match s.remap.flush with
  | some f => if f.allRecorded then s.endFlush f (some .mapWriteFailed) else s
  | none => s

/-! ### The outbound queue (R186, R188) -/

/-- A waiting record has a free place (R188). -/
def State.completionDue (s : State) : Bool := !s.link.waiting.isEmpty && decide (0 < s.link.free)

/-- The oldest waiting record of the two lists enters the queue (R188). -/
def State.completionEnters (s : State) : State :=
  match s.link.waiting with
  | r :: rest => s.withLink { s.link with occupied := s.link.occupied ++ [r], waiting := rest }
  | [] => s

/-- A free place is held for the next inbound frame only when both lists are empty (R186, R188). -/
def State.replyPlaceDue (s : State) : Bool := !s.link.held && s.link.waiting.isEmpty && decide (0 < s.link.free)

/-- The place is held. -/
def State.holdPlace (s : State) : State := s.withLink { s.link with held := true }

end Sys2Proof.Machine
end

