-- ==== Sys2Proof/Machine/Wire.lean ====
section
/-! DEFINITION. The outbound records as bytes (R198 to R202): their kind codes, tag bytes, payloads and frames, and the
odd parity of every byte on a lane (R184). -/

namespace Sys2Proof.Machine

/-! ### Codes -/

/-- The code of a refusal reason (R189): they count from 0x01 in the order of the table. -/
def Refused.code (r : Refused) : Nat :=
  1 + codeIn [.parity, .unknownKind, .badLength, .tagBusy, .noSuchTag, .noCartridge, .notMounted, .busy, .unmounting,
    .writeInhibited, .range, .bufferFull, .tableFull, .badParameter, .dataUnexpected, .dataDuplicate] r

/-- The condition kinds in the order of their bits (R190). -/
def conditionBits : List Condition :=
  [.resetOccurred, .cartridgeInserted, .cartridgeRemoved, .ejectRequested, .spindleFault, .headFault, .shock,
   .magnetFault, .mapFull, .refreshDropped, .refreshFailed, .streamDataError, .underrun, .recorderKill,
   .temperatureInvalid, .powerLimits]

/-- The code of a DONE reason (R201). -/
def Reason.code : Reason → Nat :=
  codeIn [.none, .seekFault, .idNotFound, .uncorrectable, .spareLimit, .noSpare, .writeInhibited, .magnetFault,
    .mapDamaged, .mapWriteFailed, .mediumRemoved, .spindleFault, .headFault]

/-- The code of a DONE outcome (R201). -/
def DoneOutcome.code : DoneOutcome → Nat := codeIn [.complete, .completeWithErrors, .cancelled, .aborted]

/-- The code of a PAGE DONE outcome (R201). -/
def PageOutcome.code : PageOutcome → Nat :=
  codeIn [.complete, .underrun, .killed, .stopped, .mediumRemoved, .spindleFault, .headFault]

/-- The code of a map status (R201). -/
def MapStatus.code : MapStatus → Nat := codeIn [.none, .loading, .loaded, .damaged]

/-- The code of a mount state (R202). -/
def Mount.code : Mount → Nat :=
  codeIn [.empty, .loaded, .spinningUp, .mapping, .ready, .unmounting, .flushing, .spinningDown]

/-- The code of a head state (R202). -/
def Head.code : Head → Nat :=
  codeIn [.stopped, .unpositioned, .seeking, .recalibrating, .settled, .revolving, .refocusing]

/-- The code of a magnet state (R202). -/
def MagnetState.code : MagnetState → Nat := codeIn [.unset, .toErase, .erase, .toWrite, .write, .fault]

/-- The code of a sense report (R202). -/
def senseCode : Sense → Nat := codeIn [.none, .erase, .write]

/-- The code of the active page's condition (R202). -/
def activePageCode : PageCondition → Nat
  | .waiting => 1
  | .playing => 2
  | .absent | .pending => 0

/-- The code of the pending page's condition (R202). -/
def pendingPageCode : PageCondition → Nat
  | .pending => 1
  | .absent | .waiting | .playing => 0

/-- A yes-or-no field. -/
def boolCode (b : Bool) : Nat := if b then 1 else 0

/-- The sticky flags as a byte's value (R201). -/
def Sticky.code (y : Sticky) : Nat := bitsToNat [y.ovf, y.limLow, y.limHigh, y.stale]

/-- The flags of a CALC REPORT as a byte's value (R201). -/
def Flags.code (f : Flags) : Nat := bitsToNat [f.ovf, f.limLow, f.limHigh, f.stale, f.deadband]

/-! ### Fields -/

/-- A three-byte signed field, two's complement (R198). -/
def putS3 (i : Int) : List Byte := put3 (i % 16777216).toNat

/-- An LSN field; an absent LSN is 0xFFFFFF (R199). -/
def putLsn (l : Option Nat) : List Byte := put3 (l.getD 0xFFFFFF)

/-- A PSA field: track, then sector (R198). -/
def putPsa (p : Psa) : List Byte := put2 p.track ++ put1 p.sector

/-- The state byte, LSN and spare of an entry of a MAP REPORT (R201). -/
def Entry.bytes : Entry → List Byte
  | .pending l p _ => put1 0 ++ putLsn (some l) ++ putPsa p
  | .active l p => put1 1 ++ putLsn (some l) ++ putPsa p
  | .retired p => put1 2 ++ putLsn none ++ putPsa p

/-- The temperature field and its status byte (R199, R202). -/
def temperatureBytes (t : Option Int) (stale : Bool) : List Byte :=
  match t with
  | none => put2 0 ++ put1 0
  | some v => put2 (ofS16 v) ++ put1 (if stale then 2 else 1)

/-- The 31 bytes of a STATUS REPORT (R202). -/
def StatusReport.bytes (r : StatusReport) : List Byte :=
  put1 r.mount.code ++ put1 (setBits [Inhibit.tab, .mapDamaged, .mapWriteFailed, .magnetFault] r.inhibit)
    ++ put1 r.head.code ++ put2 (r.track.getD 0xFFFF) ++ put1 r.magnet.code ++ put1 (senseCode r.lastSense)
    ++ put1 r.live ++ put2 r.jobs ++ put2 r.freeSlots ++ put1 r.depth ++ put1 r.readyRun
    ++ put1 (activePageCode r.activePage) ++ put1 (pendingPageCode r.pendingPage) ++ put1 (boolCode r.ring)
    ++ put2 r.readCode ++ put2 r.eraseCode ++ put2 r.writeCode ++ temperatureBytes r.temperature r.stale
    ++ put2 r.entries ++ put1 (boolCode r.dirty) ++ put1 r.sticky.code ++ put1 (boolCode r.conditions)

/-- The bytes of a MAP REPORT (R201). -/
def MapReport.bytes (r : MapReport) : List Byte :=
  put1 r.status.code ++ put4 r.generation.toNat ++ put1 (boolCode r.dirty) ++ put2 r.count ++ put1 (boolCode r.atEnd)
    ++ put1 r.entries.length ++ r.entries.flatMap Entry.bytes

/-! ### Records and frames -/

/-- The outbound kind code of a record (R189). -/
def Record.kind : Record → Nat
  | .taken .. => 0x80
  | .refused .. => 0x81
  | .done .. => 0x82
  | .dataIn .. => 0x83
  | .pageDone .. => 0x84
  | .statusReport _ => 0x90
  | .senseReport .. => 0x91
  | .mapReport _ => 0x92
  | .calcReport .. => 0x93

/-- The tag byte of a record: R187 gives that of an answer and R60 that of a DONE. That of a DATA IN, the tag of its READ,
is the model's choice, and that of a PAGE DONE a free value (assumption 10). -/
def Record.tagByte : Record → Byte
  | .taken tag _ _ => byteOf tag 0
  | .refused tag _ _ => byteOf tag 0
  | .done tag _ _ _ _ => byteOf tag 0
  | .dataIn tag _ _ _ _ _ => byteOf tag 0
  | .pageDone .. => Config.pageDoneTag
  | .statusReport _ | .senseReport .. | .mapReport _ | .calcReport .. => 0xFF

/-- The payload of a record (R201). -/
def Record.payload : Record → List Byte
  | .taken _ kind clampSet => put1 kind ++ put2 clampSet
  | .refused _ reason kind => put1 reason.code ++ put1 kind
  | .done _ outcome reason c first =>
      put1 outcome.code ++ put1 c.doneCount ++ put1 c.failed ++ put1 c.blank ++ put1 c.reassigned ++ putLsn first
        ++ put1 reason.code ++ put1 c.disturbed
  | .dataIn _ lsn blank c _ bytes => put3 lsn ++ put1 (boolCode blank) ++ put1 c ++ bytes
  | .pageDone pageId outcome lines fillLines killedLines failedSectors =>
      put1 pageId ++ put1 outcome.code ++ put2 lines ++ put2 fillLines ++ put2 killedLines
        ++ put2 (min failedSectors 65535)
  | .statusReport r => r.bytes
  | .senseReport conditions sticky => put2 (setBits conditionBits conditions) ++ put1 sticky.code
  | .mapReport r => r.bytes
  | .calcReport code acc flags => put2 code ++ putS3 acc ++ put1 flags.code

/-- A record as it is framed (R198). -/
def Record.frame (r : Record) : List Byte := put1 r.kind ++ [r.tagByte] ++ put2 r.payload.length ++ r.payload

/-- The number of ones among the bits of a byte. -/
def ones (b : Byte) : Nat := (List.range 8).countP fun i => b.getLsbD i

/-- Whether a byte and its parity line together hold an odd number of ones (R184). -/
def oddParity (p : Byte × Bool) : Bool := decide ((ones p.1 + boolCode p.2) % 2 = 1)

/-- A byte with the parity line the port sends it with (R184). -/
def withParity (b : Byte) : Byte × Bool := (b, decide (ones b % 2 = 0))

/-- What the outbound lane carries for a record: its frame with odd parity (R184). -/
def Record.onLane (r : Record) : List (Byte × Bool) := r.frame.map withParity

end Sys2Proof.Machine
end

