-- ==== Sys2Proof/Machine/Answers.lean ====
section
/-! DEFINITION. How commands are answered (R187): TAKEN and REFUSED, checks made in order, the mount-state check of R15,
and the tag checks of R36. -/

namespace Sys2Proof.Machine

/-- The tag byte of the answer to an untagged kind (R187). -/
def untagged : Nat := 0xFF

/-- A command is answered TAKEN (R187). -/
def State.taken (tag kind clampSet : Nat) (s : State) : State := s.reply (.taken tag kind clampSet)

/-- A command is answered REFUSED (R187). -/
def State.refuse (tag kind : Nat) (reason : Refused) (s : State) : State := s.reply (.refused tag reason kind)

/-- The refusal of the first check that fails: each check stands with the refusal it gives. -/
def firstRefusal (checks : List (Bool × Refused)) : Option Refused := (checks.find? fun c => !c.1).map Prod.snd

/-- A command whose checks run in order: the first that fails gives the refusal, and a refused command changes nothing
else. -/
def State.checked (tag kind : Nat) (checks : List (Bool × Refused)) (take : State → State) (s : State) : State :=
  match firstRefusal checks with
  | some reason => s.refuse tag kind reason
  | none => take s

/-- The mount-state check of the commands that start work on the medium (R15). -/
def Mount.mediumChecks (m : Mount) : List (Bool × Refused) :=
  [(decide (m ≠ .unmounting ∧ m ≠ .flushing), .unmounting), (decide (m = .ready), .notMounted)]

/-- The tag checks of the commands that create a request (R36). -/
def State.tagChecks (s : State) (tag : Nat) : List (Bool × Refused) :=
  [(tagValid tag, .badParameter), (!s.tagInUse tag, .tagBusy)]

end Sys2Proof.Machine
end

