-- ==== Sys2Proof/Machine/Arrivals.lean ====
section
/-! DEFINITION. What each inbound frame does at its arrival, owner by owner: its checks in order, its answer and its
effect (Chapters 2, 3, 7 to 10). `Settle.lean` begins a frame the port had to leave unanswered; the commands' meanings
stand in the files of their families. -/

namespace Sys2Proof.Machine

/-! ### STATUS and SENSE (R193, R194) -/

/-- The condition of the active page (R164). -/
def Stream.activeCondition (t : Stream) : PageCondition :=
  match t.active with
  | none => .absent
  | some p => if p.started then .playing else .waiting

/-- The condition of the pending page (R164). -/
def Stream.pendingCondition (t : Stream) : PageCondition := if t.pendingPage.isSome then .pending else .absent

/-- The report of the live values as they stand (R193). -/
def State.statusReport (s : State) : StatusReport :=
  { mount := s.sup.mount
    inhibit := s.sup.inhibit
    head := s.planner.head
    track := s.planner.current.or s.planner.target
    magnet := s.magnet.state
    lastSense := s.magnet.lastSense
    live := s.liveCount
    jobs := s.jobs.length
    freeSlots := s.pool.length
    depth := s.link.occupied.length
    readyRun := s.stream.readyRun
    activePage := s.stream.activeCondition
    pendingPage := s.stream.pendingCondition
    ring := s.stream.reserved
    readCode := s.power.read.code
    eraseCode := s.power.erase.code
    writeCode := s.power.write.code
    temperature := s.sup.temperature
    stale := s.sup.stale
    entries := s.remap.entries.length
    dirty := s.remap.dirty
    sticky := s.power.sticky
    conditions := !s.conditions.isEmpty }

/-- STATUS: the report of the live values, and no state changes (R193). -/
def State.arriveStatus (s : State) : State := s.reply (.statusReport s.statusReport)

/-- SENSE (R194): the report, then the condition set is emptied and the sticky flags cleared. -/
def State.sense (s : State) : State :=
  ((s.reply (.senseReport s.conditions s.power.sticky)).withConditions []).withPower { s.power with sticky := .clear }

/-! ### CONFIGURE (R195) -/

/-- Whether CONFIGURE is taken in a mount state (R195). -/
def Mount.configurable (m : Mount) : Bool := decide (m = .empty ∨ m = .loaded)

/-- CONFIGURE: in EMPTY and LOADED the nine parameters are clamped and written; otherwise BUSY (R195). -/
def State.arriveConfigure (readRetries writeRetries vt rt flipTime r wLo wHi killMode : Nat) (s : State) : State :=
  s.checked untagged 0x03 [(s.sup.mount.configurable, .busy)] fun s =>
    (s.taken untagged 0x03 (configureClamps readRetries writeRetries vt rt flipTime r wLo wHi killMode)).withCfg
      (configured readRetries writeRetries vt rt flipTime r wLo wHi killMode)

/-! ### RESET and refused frames (R185, R196) -/

/-- RESET (R196): the outbound queue and the lists emptied, every block's soft reset, the condition set emptied, TAKEN in
the held place. -/
def State.resetCommand (s : State) : State :=
  let s := s.withLink { s.link with occupied := [], waiting := [] }
  (s.softReset.withConditions []).taken untagged 0x04 0

/-- The frame-level refusal of a frame: the reason, the tag and the refused kind; none for a frame that passes every
check or holds no byte (R185). -/
def frameRefusal (frame : List (Byte × Bool)) : Option (Refused × Nat × Nat) :=
  match frame with
  | [] => none
  | (kind, _) :: rest =>
      if !frame.all oddParity then some (.parity, 0xFF, 0x00)
      else
        let tag := match rest with | (t, _) :: _ => t.toNat | [] => 0xFF
        match payloadLength kind.toNat with
        | none => some (.unknownKind, tag, kind.toNat)
        | some n =>
            match rest with
            | _ :: (hi, _) :: (lo, _) :: payload =>
                if payload.length = be2 hi lo ∧ be2 hi lo = n then none else some (.badLength, tag, kind.toNat)
            | _ => some (.badLength, tag, kind.toNat)

/-- A frame that fails a frame-level check is answered REFUSED and changes no block (R185). -/
def State.arriveRefused (frame : List (Byte × Bool)) (s : State) : State :=
  match frameRefusal frame with
  | some (reason, tag, kind) => s.refuse tag kind reason
  | none => s

/-! ### MOUNT and UNMOUNT (R17, R21) -/

/-- What a MOUNT that is taken begins (R17). -/
def State.beginMount (tag : Nat) (s : State) : State :=
  let s := (s.addRequest (newRequest tag .mount none false 0)).setMount .spinningUp
  s.withSup { s.sup with
    spinUpTimer := true, mountCtx := some { tag := tag, mapLeg := false, magnetLeg := false, reason := none } }

/-- MOUNT: the checks of R36 and R17, and in LOADED what it begins. -/
def State.arriveMount (tag : Nat) (s : State) : State :=
  s.checked tag 0x10
    (s.tagChecks tag ++ [(decide (s.sup.mount ≠ .empty), .noCartridge), (decide (s.sup.mount = .loaded), .busy)])
    fun s => (s.taken tag 0x10 0).beginMount tag

/-- UNMOUNT: the checks of R36 and R21, and in READY the unmount begins. -/
def State.arriveUnmount (tag options : Nat) (s : State) : State :=
  s.checked tag 0x11
    (s.tagChecks tag ++
      [(decide (s.sup.mount ≠ .empty ∧ s.sup.mount ≠ .loaded), .notMounted), (decide (s.sup.mount = .ready), .busy)])
    fun s => ((s.taken tag 0x11 0).addRequest (newRequest tag .unmount none false 0)).beginUnmount (some tag)
      (optionBit options)

/-! ### FLUSH MAP and READ MAP (R153, R158) -/

/-- The checks of R153 in order. -/
def State.flushChecks (s : State) (tag : Nat) : List (Bool × Refused) :=
  s.tagChecks tag ++ s.sup.mount.mediumChecks ++
    [ (s.remap.flush.isNone, .busy), (!s.remap.dirty || decide (s.sup.inhibit = []), .writeInhibited) ]

/-- A FLUSH MAP that is taken: a clean map ends it at once, a dirty one begins a flush (R153). -/
def State.takeFlush (tag : Nat) (s : State) : State :=
  let s := s.taken tag 0x12 0
  if s.remap.dirty then (s.addRequest (newRequest tag .flushMap none false mapSectors)).beginFlush (some tag)
  else (s.addRequest (newRequest tag .flushMap none false 0)).endRequest tag none

/-- FLUSH MAP: the checks of R153, and the flush or its end. -/
def State.arriveFlushMap (tag : Nat) (s : State) : State := s.checked tag 0x12 (s.flushChecks tag) (State.takeFlush tag)

/-- READ MAP: the MAP REPORT, and the cursor moves on (R158). -/
def State.arriveReadMap (options : Nat) (s : State) : State :=
  let r := s.remap.readMap (optionBit options)
  (s.reply (.mapReport r.1)).withRemap { s.remap with cursor := r.2 }

/-! ### READ, WRITE and ERASE (R37, R38) -/

/-- The options byte is none, or PRE-ERASED on a WRITE (R37 step 5, R200). -/
def optionsValid (kind : RequestKind) (options : Nat) : Bool :=
  decide (options = 0 ∨ (options = 1 ∧ kind = .write))

/-- Whether a kind reserves slots (R37 step 7). -/
def RequestKind.reserves (kind : RequestKind) : Bool := decide (kind = .read ∨ kind = .write)

/-- The checks of R37 in order. -/
def State.spanChecks (s : State) (kind : RequestKind) (tag lsn count options : Nat) : List (Bool × Refused) :=
  s.tagChecks tag ++ s.sup.mount.mediumChecks ++
    [ (decide (kind = .read) || decide (s.sup.inhibit = []), .writeInhibited),
      (decide (1 ≤ count ∧ count ≤ 64) && optionsValid kind options, .badParameter),
      (spanInRange lsn count, .range),
      (!kind.reserves || decide (count ≤ s.available), .bufferFull),
      (decide (count ≤ s.freeEntries), .tableFull) ]

/-- The job kind of a request kind that spans LSNs. -/
def RequestKind.jobKind : RequestKind → JobKind
  | .write => .hostWrite
  | .erase => .hostErase
  | .read | .mount | .unmount | .flushMap => .hostRead

/-- One job of an accepted request: for the LSN at an offset of the span, with the slot given it (R38 steps 3 and 4). -/
def State.addSpanJob (kind : RequestKind) (tag lsn : Nat) (preErased : Bool) (slots : List Slot) (s : State) (i : Nat) :
    State :=
  s.createJob []
    (newJob s.cfg (.tag tag) kind.jobKind (some (lsn + i)) (s.effective (lsn + i)) slots[i]? false preErased none)

/-- The act of acceptance (R38): the request record, the reservation, one job per LSN in ascending order. -/
def State.accept (kind : RequestKind) (tag lsn count : Nat) (preErased : Bool) (s : State) : State :=
  let slots := if kind.reserves then s.pool.take count else []
  let s := s.addRequest (newRequest tag kind (some (lsn, count)) preErased count)
  let s := s.withPool (if kind.reserves then s.pool.drop count else s.pool)
  (List.range count).foldl (State.addSpanJob kind tag lsn preErased slots) s

/-- READ, WRITE and ERASE: the checks, TAKEN, the act of acceptance (R37, R38). -/
def State.spanCommand (kind : RequestKind) (code tag lsn count options : Nat) (s : State) : State :=
  s.checked tag code (s.spanChecks kind tag lsn count options) fun s =>
    (s.taken tag code 0).accept kind tag lsn count (decide (options = 1))

/-! ### DATA (R49) -/

/-- The WRITE in OPEN a DATA names (R49 step 1). -/
def State.openWrite (s : State) (tag : Nat) : Option Request :=
  (s.request? tag).filter fun r => decide (r.kind = .write) && decide (r.state = .opened)

/-- Whether an LSN lies in a request's span (R49 step 2). -/
def Request.spans (r : Request) (lsn : Nat) : Bool := r.span.any fun p => decide (p.1 ≤ lsn ∧ lsn < p.1 + p.2)

/-- The job a request still has for an LSN (R49 step 3). -/
def State.jobOf (s : State) (tag lsn : Nat) : Option Job :=
  s.jobs.find? fun j => decide (j.owner = .tag tag) && decide (j.lsn = some lsn)

/-- The checks of R49 in order. -/
def State.dataChecks (s : State) (tag lsn : Nat) : List (Bool × Refused) :=
  [ ((s.openWrite tag).isSome, .dataUnexpected),
    ((s.openWrite tag).any fun r => r.spans lsn, .range),
    ((s.jobOf tag lsn).isSome, .dataUnexpected),
    ((s.jobOf tag lsn).any fun j => !j.dataPresent, .dataDuplicate) ]

/-- A DATA that is taken: the bytes into the job's slot, data present, no reply (R49, R186). -/
def State.takeData (tag lsn : Nat) (bytes : List Byte) (s : State) : State :=
  let s := s.noReply
  match s.jobOf tag lsn with
  | some j =>
      let s := match j.slot with | some slot => s.fillSlot slot bytes | none => s
      s.updateJob j.id fun j => { j with dataPresent := true }
  | none => s

/-- DATA: the checks of R49, and the bytes into the job's slot. -/
def State.arriveData (tag lsn : Nat) (bytes : List Byte) (s : State) : State :=
  s.checked tag 0x23 (s.dataChecks tag lsn) (State.takeData tag lsn bytes)

/-! ### CANCEL (R55) -/

/-- Whether a request is one CANCEL may name (R55 step 2). -/
def Request.cancellable (r : Request) : Bool := decide (r.kind = .read ∨ r.kind = .write ∨ r.kind = .erase)

/-- An OPEN request becomes CANCELLING; one in another state keeps it (R36, R55). -/
def Request.cancelled (r : Request) : Request := if r.state = .opened then { r with state := .cancelling } else r

/-- CANCEL: the checks of R55, and the request becomes CANCELLING. -/
def State.arriveCancel (tag : Nat) (s : State) : State :=
  s.checked tag 0x24
    [ (tagValid tag && s.tagInUse tag, .noSuchTag), ((s.request? tag).any Request.cancellable, .busy) ]
    fun s => (s.taken tag 0x24 0).updateRequest tag Request.cancelled

/-! ### PLAY, STOP PLAY and SET RECORDER (R165, R178, R179) -/

/-- The page a PLAY names, as created (R164). -/
def newPage (pageId lsn lineLen lineCount : Nat) : Page :=
  { pageId := pageId, startLsn := lsn, lineLen := lineLen, lineCount := lineCount, started := false, abandoned := false
    lines := 0, fillLines := 0, killedLines := 0, failedSectors := 0, lastLine := none }

/-- The checks of R165 in order. -/
def State.playChecks (s : State) (lsn lineLen lineCount : Nat) : List (Bool × Refused) :=
  s.sup.mount.mediumChecks ++
    [ (decide (16 ≤ lineLen ∧ lineLen ≤ 8192) && decide (1 ≤ lineCount ∧ lineCount ≤ 65535), .badParameter),
      (spanInRange lsn (pageSectors lineLen lineCount), .range),
      (s.stream.active.isNone || s.stream.pendingPage.isNone, .busy),
      (s.stream.reserved || decide (s.cfg.ringSize ≤ s.available), .bufferFull) ]

/-- A RELEASED ring is reserved: R slots move from the free pool into it (R166). -/
def State.reserveRing (s : State) : State :=
  if s.stream.reserved then s
  else
    let slots := s.pool.take s.cfg.ringSize
    (s.withPool (s.pool.drop s.cfg.ringSize)).withStream { s.stream with reserved := true, ringFree := slots }

/-- The new page becomes the active or the pending page, and the fetch pointer names its sector 0 where it named none
(R165). That a page taken behind an abandoned one is fetched from at once too is the model's choice (assumption 37). -/
def Stream.addPage (p : Page) (t : Stream) : Stream :=
  if t.active.isNone then
    { t with active := some p, readPos := 0, idleLen := p.lineLen, fetch := t.fetch.or (some (.active, 0)) }
  else { t with pendingPage := some p, fetch := t.fetch.or (some (.pending, 0)) }

/-- PLAY: the checks of R165, the ring and the new page. -/
def State.arrivePlay (pageId lsn lineLen lineCount : Nat) (s : State) : State :=
  s.checked untagged 0x30 (s.playChecks lsn lineLen lineCount) fun s =>
    let s := (s.taken untagged 0x30 0).reserveRing
    s.withStream (s.stream.addPage (newPage pageId lsn lineLen lineCount))

/-- STOP PLAY: both pages end STOPPED (R178). -/
def State.arriveStopPlay (s : State) : State := (s.taken untagged 0x31 0).stopPages

/-- The settings a SET RECORDER names, if all three values are listed (R179). -/
def recorderSettings (invert mirror fill : Nat) : Option RecorderSettings :=
  (switchOf invert).bind fun i => (switchOf mirror).bind fun m => (fillOf fill).map fun f =>
    { invert := i, mirror := m, fill := f }

/-- SET RECORDER: the staged settings, or BAD PARAMETER (R179). -/
def State.arriveSetRecorder (invert mirror fill : Nat) (s : State) : State :=
  match recorderSettings invert mirror fill with
  | some r => (s.taken untagged 0x32 0).withStream { s.stream with staged := r }
  | none => s.refuse untagged 0x32 .badParameter

/-! ### SET POWER and CALC (R125, R137) -/

/-- SET POWER is refused in SPINNING UP and MAPPING (R125 step 1). -/
def Mount.takesSetPower (m : Mount) : Bool := decide (m ≠ .spinningUp ∧ m ≠ .mapping)

/-- The checks of R125 in order. -/
def State.setPowerChecks (s : State) (kind pmin pmax round : Nat) : List (Bool × Refused) :=
  [ (s.sup.mount.takesSetPower, .busy), ((setKindOf kind).isSome, .badParameter),
    ((roundingOf round).isSome, .badParameter), (decide (pmin ≤ pmax), .badParameter) ]

/-- A SET POWER that is taken: TAKEN with the clamp set, the clamped values in the kind's staged copy, the switch pending
(R126). -/
def State.stagePower (kind : SetKind) (b : Nat) (g k thetaRef : Int) (d pmin pmax : Nat) (round : Rounding) (s : State) :
    State :=
  let s := s.taken untagged 0x40 (setPowerClamps b thetaRef d pmin pmax)
  s.withPower (s.power.set kind ((s.power.get kind).stage (clampedSet b g k thetaRef d pmin pmax round)))

/-- SET POWER: the checks of R125, and the staged copy (R126). -/
def State.arriveSetPower (kind b : Nat) (g k thetaRef : Int) (d pmin pmax round : Nat) (s : State) : State :=
  s.checked untagged 0x40 (s.setPowerChecks kind pmin pmax round) fun s =>
    match setKindOf kind, roundingOf round with
    | some kd, some rd => s.stagePower kd b g k thetaRef d pmin pmax rd
    | _, _ => s

/-- The checks of R137. In the temperature mode byte 0 means an explicit value and every other code "current" (R199). -/
def calcChecks (zone tempMode : Nat) (temp : Int) (kind copy : Nat) : List (Bool × Refused) :=
  [ (decide (zone ≤ 15), .badParameter),
    (decide (tempMode ≠ 0) || (decide (-160 ≤ temp) && decide (temp ≤ 500)), .badParameter),
    ((setKindOf kind).isSome, .badParameter), ((copyOf copy).isSome, .badParameter) ]

/-- The temperature input of a CALC (R138). -/
def State.calcInput (tempMode : Nat) (temp : Int) (s : State) : TempInput :=
  if tempMode = 0 then { value := some temp, stale := false } else s.tempInput

/-- The copy of a set a CALC names (R138). -/
def PowerKind.copy (x : PowerKind) (staged : Bool) : Coefficients := if staged then x.staged else x.active

/-- The answer of a CALC that is taken (R138). -/
def State.calcReport (zone tempMode : Nat) (temp : Int) (kind : SetKind) (staged : Bool) (s : State) : Record :=
  let r := compute ((s.power.get kind).copy staged) zone (s.calcInput tempMode temp)
  .calcReport r.code r.acc r.flags

/-- CALC: the checks of R137, and the report (R138). -/
def State.arriveCalc (zone tempMode : Nat) (temp : Int) (kind copy : Nat) (s : State) : State :=
  s.checked untagged 0x41 (calcChecks zone tempMode temp kind copy) fun s =>
    match setKindOf kind, copyOf copy with
    | some kd, some staged => s.reply (s.calcReport zone tempMode temp kd staged)
    | _, _ => s

/-! ### Every frame (R187) -/

/-- The dispatch of an inbound frame to its owner at its arrival (R187); a command that is no frame has none. -/
def State.arrive (c : Instr) (s : State) : State :=
  match c with
  | .status => s.arriveStatus
  | .sense => s.sense
  | .configure readRetries writeRetries vt rt flipTime r wLo wHi killMode =>
      s.arriveConfigure readRetries writeRetries vt rt flipTime r wLo wHi killMode
  | .reset => s.resetCommand
  | .mount tag => s.arriveMount tag
  | .unmount tag options => s.arriveUnmount tag options
  | .flushMap tag => s.arriveFlushMap tag
  | .readMap options => s.arriveReadMap options
  | .read tag lsn count options => s.spanCommand .read 0x20 tag lsn count options
  | .write tag lsn count options => s.spanCommand .write 0x21 tag lsn count options
  | .erase tag lsn count options => s.spanCommand .erase 0x22 tag lsn count options
  | .data tag lsn bytes => s.arriveData tag lsn bytes
  | .cancel tag => s.arriveCancel tag
  | .play pageId lsn lineLen lineCount => s.arrivePlay pageId lsn lineLen lineCount
  | .stopPlay => s.arriveStopPlay
  | .setRecorder invert mirror fill => s.arriveSetRecorder invert mirror fill
  | .setPower kind b g k thetaRef d pmin pmax round => s.arriveSetPower kind b g k thetaRef d pmin pmax round
  | .calcPower zone tempMode temp kind copy => s.arriveCalc zone tempMode temp kind copy
  | .refusedFrame frame => s.arriveRefused frame
  | .emptyFrame | .recordLeavesLane | .completionEntersQueue | .replyPlaceHeld | .hardwareReset _ _
  | .cartridgePresent | .cartridgeAbsent | .protectTab _ | .inhibitSecondStage | .ejectButton | .spindleAtSpeed
  | .spindleStopped | .spinUpTimerExpiry | .indexTimerExpiry | .temperatureReading _ | .index
  | .cancelTakesEffect _ | .orphanRemoval | .sectorMark _ | .sectorEnd _ | .mapLoadDecision | .mountComplete
  | .drained | .flushTakesSlots | .mapWriteClaimMet | .streamClaimMet | .flushSucceeds | .flushFails | .seekDone
  | .seekFault | .seekTimerExpiry | .recalibrationTimerExpiry | .offTrack | .focusLost | .focusRegained
  | .refocusTimerExpiry | .magnetSense _ | .flipTimerExpiry | .settleTimeoutExpiry | .lineRequest | .pageStart
  | .killAsserted | .killReleased | .frameLineDroppedAfterReset => s

/-! ### Frames offered during the inbound hold (R186) -/

/-- A frame whose first byte the port gives no take is offered until a place is held (R186; assumption 4). -/
def State.offer (c : Instr) (s : State) : State := s.withLink { s.link with offered := s.link.offered ++ [c] }

/-- The frame line drops with no byte taken: the frame that was strobed is no frame and is offered no longer (R184;
assumption 4). -/
def State.withdrawOffered (s : State) : State := s.withLink { s.link with offered := s.link.offered.tail }

/-- An offered frame can be begun: the port accepts its first byte (R184, R186). -/
def State.offeredDue (s : State) : Bool := s.link.accepting && !s.link.offered.isEmpty

/-- The frame offered first is begun, and its dispatch follows (R186). -/
def State.beginOffered (s : State) : State :=
  match s.link.offered with
  | c :: rest => (s.withLink { s.link with offered := rest }).arrive c
  | [] => s

end Sys2Proof.Machine
end

