-- ==== Sys2Proof/Machine/Settle.lean ====
section
/-! DEFINITION. The manual gives each internal step its moment: at once, or as soon as its condition holds. `settle`
takes every internal step that is due, in one fixed order (assumption 2), so that a command from outside finds none
waiting; a state in which none is due is `Quiet`. -/

namespace Sys2Proof.Machine

/-- An internal step: when it is due and what it does. -/
structure Internal where
  due    : State → Bool
  effect : State → State

/-- The internal steps, in the order in which due ones are taken (R46: the stream fetcher's claim before the flush's;
R56: a cancel before the second stage; R188: completions before the inbound lane; R186: a held place before the frame
that waits for it). -/
def internalSteps : List Internal :=
  [ { due := fun s => s.firstCancel.isSome
      effect := fun s => match s.firstCancel with | some t => s.cancelEffect t | none => s },
    { due := State.secondStageDue, effect := State.secondStageEffect },
    { due := State.orphansDue, effect := State.removeOrphans },
    { due := State.loadDue, effect := State.loadEffect },
    { due := State.mountDue, effect := State.mountEffect },
    { due := State.flushFailsDue, effect := State.flushFailsEffect },
    { due := State.flushSucceedsDue, effect := State.flushSucceedsEffect },
    { due := State.flushSlotsDue, effect := State.flushTakes },
    { due := State.streamClaimDue, effect := State.streamClaimMet },
    { due := State.mapClaimDue, effect := State.mapClaimMet },
    { due := fun s => s.stream.startTest, effect := State.testStart },
    { due := State.drainedDue, effect := State.decideDrained },
    { due := State.completionDue, effect := State.completionEnters },
    { due := State.replyPlaceDue, effect := State.holdPlace },
    { due := State.offeredDue, effect := State.beginOffered } ]

/-- The state after the first due internal step, if one is due. -/
def takeDue (s : State) : Option State := (internalSteps.find? fun i => i.due s).map fun i => i.effect s

/-- No internal step is due. -/
abbrev Quiet (s : State) : Prop := takeDue s = none

/-- Due internal steps taken one after another, at most the given number. -/
def settleWithin : Nat → State → State
  | 0, s => s
  | n + 1, s =>
      match takeDue s with
      | some s' => settleWithin n s'
      | none => s

/-- More internal steps than one event can make due: each takes a job, a claim, a record, an offered frame or a phase
away. -/
def settleBound : Nat := 4096

/-- Every due internal step is taken. -/
def settle (s : State) : State := settleWithin settleBound s

/-! ### The three ways a command is taken -/

/-- An event from outside: the due internal steps first, then its own effect. -/
def onEvent (effect : State → State) (s : State) : Host.Outcome State Fault Refusal := .next (effect (settle s))

/-- An inbound frame: the due internal steps first, then its dispatch where the port gives take to its first byte. Where
it holds no place, or an earlier frame is still offered, the frame is offered and waits (R184, R186; assumption 4). While
the port waits for the frame line to drop after a hardware reset, the frame is not begun at all (R197). -/
def onFrame (c : Instr) (arrival : State → State) (s : State) : Host.Outcome State Fault Refusal :=
  let s := settle s
  .next (if s.link.frameWait then s else if s.link.held ∧ s.link.offered = [] then arrival s else s.offer c)

/-- An internal step named as a command: it acts where it is due (assumption 3). -/
def onStep (due : State → Bool) (effect : State → State) (s : State) : Host.Outcome State Fault Refusal :=
  .next (if due s then effect s else s)

end Sys2Proof.Machine
end

