-- ==== Sys2Proof/Machine/CartridgeCommands.lean ====
section
/-! DEFINITION. The meanings of the cartridge, spindle and temperature commands (Chapter 2). -/

namespace Sys2Proof.Machine

/-! ### MOUNT and UNMOUNT (R17, R21) -/

/-- MOUNT (R17). -/
def execMount (tag : Nat) (s : State) : Host.Outcome State Fault Refusal :=
  onFrame (.mount tag) (State.arriveMount tag) s

/-- UNMOUNT (R21). -/
def execUnmount (tag options : Nat) (s : State) : Host.Outcome State Fault Refusal :=
  onFrame (.unmount tag options) (State.arriveUnmount tag options) s

/-! ### The cartridge (R16, R24, R25, R31) -/

/-- CARTRIDGE_PRESENT (R16). -/
def execCartridgePresent (s : State) : Host.Outcome State Fault Refusal :=
  onEvent (fun s => if s.sup.mount = .empty then (s.setMount .loaded).raise .cartridgeInserted else s) s

/-- The cartridge-absent event by mount state (R25). -/
def State.cartridgeGone (s : State) : State :=
  match s.sup.mount with
  | .empty => s
  | .loaded => (s.setMount .empty).raise .cartridgeRemoved
  | .spinningUp | .mapping | .ready | .unmounting | .flushing | .spinningDown => s.removeMedium

/-- CARTRIDGE_ABSENT (R25). -/
def execCartridgeAbsent (s : State) : Host.Outcome State Fault Refusal := onEvent State.cartridgeGone s

/-- A protect-tab event: the input's level, sampled while the state is mounted (R31). -/
def State.tabEvent (isSet : Bool) (s : State) : State :=
  let s := s.withSup { s.sup with tabInput := isSet }
  if s.sup.mount.mounted then s.sampleTab else s

/-- PROTECT_TAB (R31). -/
def execProtectTab (isSet : Bool) (s : State) : Host.Outcome State Fault Refusal := onEvent (State.tabEvent isSet) s

/-- INHIBIT_SECOND_STAGE (R30). -/
def execInhibitSecondStage (s : State) : Host.Outcome State Fault Refusal :=
  onStep State.secondStageDue State.secondStageEffect s

/-- The eject button by mount state (R24). -/
def State.ejectPressed (s : State) : State :=
  match s.sup.mount with
  | .loaded => s.emit .eject
  | .ready => (s.raise .ejectRequested).beginUnmount none true
  | .empty | .spinningUp | .mapping | .unmounting | .flushing | .spinningDown => s

/-- EJECT_BUTTON (R24). -/
def execEjectButton (s : State) : Host.Outcome State Fault Refusal := onEvent State.ejectPressed s

/-! ### The spindle (R18, R19, R26, R28) -/

/-- SPINDLE_AT_SPEED (R18). -/
def execSpindleAtSpeed (s : State) : Host.Outcome State Fault Refusal :=
  onEvent (fun s => if s.sup.mount = .spinningUp then s.startMapping else s) s

/-- The spindle-stopped event by mount state (R19, R23, R28). -/
def State.spindleHalts (s : State) : State :=
  match s.sup.mount with
  | .mapping | .ready | .unmounting | .flushing => (s.faultSpinDown .spindle).reachLoaded
  | .spinningDown => s.reachLoaded
  | .spinningUp => s.spinUpFails.reachLoaded
  | .empty | .loaded => s

/-- SPINDLE_STOPPED (R28). -/
def execSpindleStopped (s : State) : Host.Outcome State Fault Refusal := onEvent State.spindleHalts s

/-- SPIN_UP_TIMER_EXPIRY (R19): the timer expires only while it runs. -/
def execSpinUpTimerExpiry (s : State) : Host.Outcome State Fault Refusal :=
  onEvent (fun s => if s.sup.spinUpTimer then s.spinUpFails else s) s

/-- INDEX_TIMER_EXPIRY (R26): the timer expires only while it runs. -/
def execIndexTimerExpiry (s : State) : Host.Outcome State Fault Refusal :=
  onEvent (fun s => if s.sup.indexTimer then s.faultSpinDown .spindle else s) s

/-! ### The temperature (R32) -/

/-- Whether a reading is a valid value (R32). -/
def temperatureValid (v : Int) : Bool := decide (-160 ≤ v ∧ v ≤ 500)

/-- A temperature reading (R32); `none` is a reading marked invalid. -/
def State.temperatureRead (reading : Option Int) (s : State) : State :=
  match reading.filter temperatureValid with
  | some v => s.withSup { s.sup with temperature := some v, stale := false }
  | none => (s.withSup { s.sup with stale := s.sup.temperature.isSome }).raise .temperatureInvalid

/-- TEMPERATURE_READING (R32). -/
def execTemperatureReading (reading : Option Int) (s : State) : Host.Outcome State Fault Refusal :=
  onEvent (State.temperatureRead reading) s

/-! ### The part's own steps (R20, R22) -/

/-- MOUNT_COMPLETE (R20). -/
def execMountComplete (s : State) : Host.Outcome State Fault Refusal := onStep State.mountDue State.mountEffect s

/-- DRAINED (R22). -/
def execDrained (s : State) : Host.Outcome State Fault Refusal := onStep State.drainedDue State.decideDrained s

end Sys2Proof.Machine
end

