-- ==== Sys2Proof/Machine/HeadEvents.lean ====
section
/-! DEFINITION. The meanings of the index event, the sector events and the events of the head (Chapters 4 and 5). -/

namespace Sys2Proof.Machine

/-! ### The index event (R26, R30, R56, R73, R92, R99, R107, R127, R134, R178) -/

/-- What the index does to the sequencer: the open action is cut off, the position is 0, the kill latch clear (R92, R99,
R107). -/
def State.indexSequencer (s : State) : State :=
  let s := s.cutOff
  s.withSeq { s.seq with position := 0, killLatch := false }

/-- The cancels, the inhibit stage and the orphan removal that fall on the index; a cancel comes before the second stage
(R30, R56, R178). What each of them frees goes at once to a waiting flush and to the claims, so that the next of them and
the decision find the table as it then stands (R40, R46, R73). -/
def State.indexJobs (s : State) : State :=
  let s := if s.planner.head = .revolving then
      s.pendingCancels.foldl (fun s tag => (s.cancelEffect tag).meetClaims) s
    else s
  let s := if s.sup.secondStage = .idle then s else s.secondStageEffect.meetClaims
  if s.planner.head = .revolving then s.removeOrphans.meetClaims else s

/-- The planner's part of the index, by head state (R73). -/
def State.indexPlanner (s : State) : State :=
  match s.planner.head, s.planner.current with
  | .unpositioned, _ => s.seekChoice
  | .settled, some t => s.planRevolution t
  | .revolving, some t => (s.withPlanner { s.planner with plan := none }).planRevolution t
  | _, _ => s

/-- The calculator's part of an index that begins a revolution: one that leaves the head REVOLVING (R73, R127, R134). -/
def State.indexPower (s : State) : State :=
  match s.planner.head, s.planner.plan with
  | .revolving, some p => s.powerAtRevolution p.zone
  | _, _ => s

/-- An index event; ignored in SPINNING DOWN (R23). The index timer it restarts runs on (R26). -/
def State.indexEvent (s : State) : State :=
  if s.sup.mount = .spinningDown then s else s.indexSequencer.indexJobs.indexPlanner.indexPower

/-- INDEX (R73). -/
def execIndex (s : State) : Host.Outcome State Fault Refusal := onEvent State.indexEvent s

/-! ### The sectors (R93, R98) -/

/-- SECTOR_MARK (R93). -/
def execSectorMark (header : Option Psa) (s : State) : Host.Outcome State Fault Refusal := onEvent (State.sectorMark header) s

/-- SECTOR_END (R98). -/
def execSectorEnd (outcome : ReadOutcome) (s : State) : Host.Outcome State Fault Refusal := onEvent (State.sectorEnd outcome) s

/-! ### Seeks (R68, R69) -/

/-- SEEK_DONE (R68, R69). -/
def execSeekDone (s : State) : Host.Outcome State Fault Refusal := onEvent State.seekEnds s

/-- SEEK_FAULT (R68, R69). -/
def execSeekFault (s : State) : Host.Outcome State Fault Refusal := onEvent State.seekFails s

/-- SEEK_TIMER_EXPIRY (R68): the timer expires only while it runs. -/
def execSeekTimerExpiry (s : State) : Host.Outcome State Fault Refusal :=
  onEvent (fun s => if s.planner.seekTimer ∧ s.planner.head = .seeking then s.countFailure else s) s

/-- RECALIBRATION_TIMER_EXPIRY (R69): the timer expires only while it runs. -/
def execRecalibrationTimerExpiry (s : State) : Host.Outcome State Fault Refusal :=
  onEvent (fun s => if s.planner.recalTimer ∧ s.planner.head = .recalibrating then s.recalibrationFails else s) s

/-! ### Disturbances (R86, R87, R106, R109) -/

/-- The off-track event by head state (R86, R106). -/
def State.offTrackEvent (s : State) : State :=
  match s.planner.head, s.planner.current with
  | .settled, some t => s.offTrackOn t
  | .revolving, some t => s.offTrackOn t
  | _, _ => s

/-- OFF_TRACK (R86). -/
def execOffTrack (s : State) : Host.Outcome State Fault Refusal := onEvent State.offTrackEvent s

/-- The focus-lost event (R87, R106, R109); ignored in REFOCUSING and STOPPED. -/
def State.focusLostEvent (s : State) : State :=
  match s.planner.head with
  | .stopped | .refocusing => s
  | .unpositioned | .seeking | .recalibrating | .settled | .revolving =>
      let s := s.setLatch
      let s := s.withPlanner { s.planner with head := .refocusing, seekTimer := false, recalTimer := false, plan := none }
      s.withSeq { s.seq with refocusTimer := true }

/-- FOCUS_LOST (R87). -/
def execFocusLost (s : State) : Host.Outcome State Fault Refusal := onEvent State.focusLostEvent s

/-- The focus-regained event (R87, R109); ignored outside REFOCUSING. -/
def State.focusRegainedEvent (s : State) : State :=
  if s.planner.head = .refocusing then
    let s := s.withSeq { s.seq with refocusTimer := false }
    match s.planner.target, s.planner.current with
    | some t, _ => s.issueSeek t
    | none, some t => s.issueSeek t
    | none, none => s.becomeUnpositioned
  else s

/-- FOCUS_REGAINED (R87). -/
def execFocusRegained (s : State) : Host.Outcome State Fault Refusal := onEvent State.focusRegainedEvent s

/-- REFOCUS_TIMER_EXPIRY (R109): the timer expires only while it runs. -/
def execRefocusTimerExpiry (s : State) : Host.Outcome State Fault Refusal :=
  onEvent (fun s => if s.seq.refocusTimer then s.faultSpinDown .head else s) s

end Sys2Proof.Machine
end

