-- ==== Sys2Proof/Machine/LinkCommands.lean ====
section
/-! DEFINITION. The meanings of the link's commands (Chapter 10): STATUS, SENSE, CONFIGURE, RESET, refused and empty
frames, records leaving the lane, the free places of the outbound queue, and the hardware reset. -/

namespace Sys2Proof.Machine

/-! ### STATUS and SENSE (R193, R194) -/

/-- STATUS (R193): the report, and no state changes. -/
def execStatus (s : State) : Host.Outcome State Fault Refusal := onFrame .status State.arriveStatus s

/-- SENSE (R194). -/
def execSense (s : State) : Host.Outcome State Fault Refusal := onFrame .sense State.sense s

/-! ### CONFIGURE (R195) -/

/-- CONFIGURE (R195): in EMPTY and LOADED the nine parameters are clamped and written; otherwise BUSY. -/
def execConfigure (readRetries writeRetries vt rt flipTime r wLo wHi killMode : Nat) (s : State) :
    Host.Outcome State Fault Refusal :=
  onFrame (.configure readRetries writeRetries vt rt flipTime r wLo wHi killMode)
    (State.arriveConfigure readRetries writeRetries vt rt flipTime r wLo wHi killMode) s

/-! ### The resets (R33, R196, R197) -/

/-- RESET (R196). -/
def execReset (s : State) : Host.Outcome State Fault Refusal := onFrame .reset State.resetCommand s

/-- Hardware reset (R33, R63, R88, R110, R119, R139, R161, R182, R197): every block at its reset values, the
cartridge-present and kill inputs sampled. The bytes of the buffer SRAM stay (assumption 6), and the protect-tab input is
no state of the part (assumption 28). -/
def State.hardwareReset (cartridge kill : Bool) (s : State) : State :=
  let r := State.reset
  let r := r.withSup { r.sup with mount := if cartridge then .loaded else .empty, tabInput := s.sup.tabInput }
  let r := r.withStream { r.stream with killLevel := kill }
  ((r.withSram s.sram).withEmitted s.emitted).withPending s.pending

/-- HARDWARE_RESET (R33). -/
def execHardwareReset (cartridge kill : Bool) (s : State) : Host.Outcome State Fault Refusal :=
  onEvent (State.hardwareReset cartridge kill) s

/-- The inbound frame line is dropped after a hardware reset: the port receives frames again (R197). -/
def execFrameLineDroppedAfterReset (s : State) : Host.Outcome State Fault Refusal :=
  onEvent (fun s => s.withLink { s.link with frameWait := false }) s

/-! ### Frames that reach no owner (R184, R185) -/

/-- A frame that fails a frame-level check is answered REFUSED and changes no block (R185). A frame that fails none is not
this event (assumption 31). -/
def execRefusedFrame (frame : List (Byte × Bool)) (s : State) : Host.Outcome State Fault Refusal :=
  onFrame (.refusedFrame frame) (State.arriveRefused frame) s

/-- An empty frame is no frame: nothing is dispatched, and the reply place stays held; a frame whose strobe the inbound hold
left unanswered is withdrawn by it (R184). It does not end the wait of R197, which FRAME_LINE_DROPPED_AFTER_RESET alone ends
(DESIGN CHOICE, assumption 45). -/
def execEmptyFrame (s : State) : Host.Outcome State Fault Refusal := onEvent State.withdrawOffered s

/-! ### The outbound lane (R184, R186, R188) -/

/-- What the leaving of a record does beyond freeing its place: a DONE frees its tag (R36), a DATA IN returns its slot and
may end its READ (R41, R58, R62). -/
def State.recordLeft (r : Record) (s : State) : State :=
  match r with
  | .done tag _ _ _ _ => s.freeTag tag
  | .dataIn tag _ _ _ slot _ => (s.returnSlots [slot]).tryEndRequest tag
  | _ => s

/-- The workstation takes the last byte of the oldest record (R184, R186). -/
def State.recordLeaves (s : State) : State :=
  match s.link.occupied with
  | r :: rest => ((s.withLink { s.link with occupied := rest }).emit (.sent r)).recordLeft r
  | [] => s

/-- RECORD_LEAVES_LANE (R184). -/
def execRecordLeavesLane (s : State) : Host.Outcome State Fault Refusal := onEvent State.recordLeaves s

/-- COMPLETION_ENTERS_QUEUE (R188). -/
def execCompletionEntersQueue (s : State) : Host.Outcome State Fault Refusal :=
  onStep State.completionDue State.completionEnters s

/-- REPLY_PLACE_HELD (R186). -/
def execReplyPlaceHeld (s : State) : Host.Outcome State Fault Refusal := onStep State.replyPlaceDue State.holdPlace s

end Sys2Proof.Machine
end

