-- ==== Sys2Proof/Machine/MagnetEvents.lean ====
section
/-! DEFINITION. The meanings of the bias magnet's events (Chapter 6). -/

namespace Sys2Proof.Machine

/-- MAGNET_SENSE (R113). -/
def execMagnetSense (value : Sense) (s : State) : Host.Outcome State Fault Refusal := onEvent (State.senseReport value) s

/-- FLIP_TIMER_EXPIRY (R115). -/
def execFlipTimerExpiry (s : State) : Host.Outcome State Fault Refusal := onEvent State.flipTimerExpires s

/-- SETTLE_TIMEOUT_EXPIRY (R116). -/
def execSettleTimeoutExpiry (s : State) : Host.Outcome State Fault Refusal := onEvent State.settleTimeoutExpires s

end Sys2Proof.Machine
end

