-- ==== Sys2Proof/Machine/MapCommands.lean ====
section
/-! DEFINITION. The meanings of FLUSH MAP and READ MAP and of the remap table's own steps (Chapter 8). -/

namespace Sys2Proof.Machine

/-- FLUSH MAP (R153). -/
def execFlushMap (tag : Nat) (s : State) : Host.Outcome State Fault Refusal :=
  onFrame (.flushMap tag) (State.arriveFlushMap tag) s

/-- READ MAP (R158): the MAP REPORT, and the cursor moves on. -/
def execReadMap (options : Nat) (s : State) : Host.Outcome State Fault Refusal :=
  onFrame (.readMap options) (State.arriveReadMap options) s

/-- MAP_LOAD_DECISION (R151). -/
def execMapLoadDecision (s : State) : Host.Outcome State Fault Refusal := onStep State.loadDue State.loadEffect s

/-- FLUSH_TAKES_SLOTS (R154). -/
def execFlushTakesSlots (s : State) : Host.Outcome State Fault Refusal := onStep State.flushSlotsDue State.flushTakes s

/-- MAP_WRITE_CLAIM_MET (R154). -/
def execMapWriteClaimMet (s : State) : Host.Outcome State Fault Refusal := onStep State.mapClaimDue State.mapClaimMet s

/-- FLUSH_SUCCEEDS (R155). -/
def execFlushSucceeds (s : State) : Host.Outcome State Fault Refusal :=
  onStep State.flushSucceedsDue State.flushSucceedsEffect s

/-- FLUSH_FAILS (R156). -/
def execFlushFails (s : State) : Host.Outcome State Fault Refusal := onStep State.flushFailsDue State.flushFailsEffect s

end Sys2Proof.Machine
end

