-- ==== Sys2Proof/Machine/PowerCommands.lean ====
section
/-! DEFINITION. The meanings of SET POWER and CALC (Chapter 7). -/

namespace Sys2Proof.Machine

/-- SET POWER (R125, R126). -/
def execSetPower (kind b : Nat) (g k thetaRef : Int) (d pmin pmax round : Nat) (s : State) :
    Host.Outcome State Fault Refusal :=
  onFrame (.setPower kind b g k thetaRef d pmin pmax round)
    (State.arriveSetPower kind b g k thetaRef d pmin pmax round) s

/-- CALC (R137, R138). -/
def execCalc (zone tempMode : Nat) (temp : Int) (kind copy : Nat) (s : State) : Host.Outcome State Fault Refusal :=
  onFrame (.calcPower zone tempMode temp kind copy) (State.arriveCalc zone tempMode temp kind copy) s

end Sys2Proof.Machine
end

