-- ==== Sys2Proof/Machine/RequestCommands.lean ====
section
/-! DEFINITION. The meanings of READ, WRITE, ERASE, DATA and CANCEL and of a cancel taking effect (Chapter 3). -/

namespace Sys2Proof.Machine

/-! ### Taking READ, WRITE and ERASE (R37, R38) -/

/-- READ (R38). -/
def execRead (tag lsn count options : Nat) (s : State) : Host.Outcome State Fault Refusal :=
  onFrame (.read tag lsn count options) (State.spanCommand .read 0x20 tag lsn count options) s

/-- WRITE (R38). -/
def execWrite (tag lsn count options : Nat) (s : State) : Host.Outcome State Fault Refusal :=
  onFrame (.write tag lsn count options) (State.spanCommand .write 0x21 tag lsn count options) s

/-- ERASE (R38). -/
def execErase (tag lsn count options : Nat) (s : State) : Host.Outcome State Fault Refusal :=
  onFrame (.erase tag lsn count options) (State.spanCommand .erase 0x22 tag lsn count options) s

/-! ### DATA (R49) -/

/-- DATA (R49). -/
def execData (tag lsn : Nat) (bytes : List Byte) (s : State) : Host.Outcome State Fault Refusal :=
  onFrame (.data tag lsn bytes) (State.arriveData tag lsn bytes) s

/-! ### CANCEL (R55, R56) -/

/-- CANCEL (R55). -/
def execCancel (tag : Nat) (s : State) : Host.Outcome State Fault Refusal :=
  onFrame (.cancel tag) (State.arriveCancel tag) s

/-- CANCEL_TAKES_EFFECT (R56, R57). -/
def execCancelTakesEffect (tag : Nat) (s : State) : Host.Outcome State Fault Refusal :=
  onStep (State.cancelDue tag) (fun s => s.cancelEffect tag) s

end Sys2Proof.Machine
end

