-- ==== Sys2Proof/Machine/StreamCommands.lean ====
section
/-! DEFINITION. The meanings of PLAY, STOP PLAY and SET RECORDER and of the recorder's events (Chapter 9). -/

namespace Sys2Proof.Machine

/-! ### PLAY (R165) -/

/-- PLAY (R165). -/
def execPlay (pageId lsn lineLen lineCount : Nat) (s : State) : Host.Outcome State Fault Refusal :=
  onFrame (.play pageId lsn lineLen lineCount) (State.arrivePlay pageId lsn lineLen lineCount) s

/-! ### STOP PLAY and SET RECORDER (R178, R179) -/

/-- STOP PLAY (R178). -/
def execStopPlay (s : State) : Host.Outcome State Fault Refusal :=
  onFrame .stopPlay State.arriveStopPlay s

/-- SET RECORDER (R179). -/
def execSetRecorder (invert mirror fill : Nat) (s : State) : Host.Outcome State Fault Refusal :=
  onFrame (.setRecorder invert mirror fill) (State.arriveSetRecorder invert mirror fill) s

/-! ### The fetcher's own steps (R167, R170, R178) -/

/-- ORPHAN_REMOVAL (R178). -/
def execOrphanRemoval (s : State) : Host.Outcome State Fault Refusal := onStep State.orphansDue State.removeOrphans s

/-- STREAM_CLAIM_MET (R167). -/
def execStreamClaimMet (s : State) : Host.Outcome State Fault Refusal := onStep State.streamClaimDue State.streamClaimMet s

/-- PAGE_START (R170). -/
def execPageStart (s : State) : Host.Outcome State Fault Refusal := onStep (fun s => s.stream.startTest) State.testStart s

/-! ### The recorder's events (R172, R176, R177) -/

/-- LINE_REQUEST (R172). -/
def execLineRequest (s : State) : Host.Outcome State Fault Refusal := onEvent State.lineRequest s

/-- The kill-asserted event (R176); in EDGE mode it ends a PLAYING page (R177). -/
def State.killEvent (s : State) : State :=
  let s := (s.withStream { s.stream with killLevel := true }).raise .recorderKill
  if s.cfg.killMode = .edge ∧ s.stream.playing = true then s.killPage else s

/-- KILL_ASSERTED (R176, R177). -/
def execKillAsserted (s : State) : Host.Outcome State Fault Refusal := onEvent State.killEvent s

/-- KILL_RELEASED (R176). -/
def execKillReleased (s : State) : Host.Outcome State Fault Refusal :=
  onEvent (fun s => s.withStream { s.stream with killLevel := false }) s

end Sys2Proof.Machine
end

