-- ==== Sys2Proof/Machine/Dispatch.lean ====
section
/-! DEFINITION. The dispatch of the commands to their meanings: one arm for each row of spec/opcode_table.json. -/

namespace Sys2Proof.Machine

/-- What a command does, by its own meaning. -/
def exec (i : Instr) (s : State) : Host.Outcome State Fault Refusal :=
  match i with
  | .status => Sys2Proof.Machine.execStatus s
  | .sense => Sys2Proof.Machine.execSense s
  | .configure readRetries writeRetries vt rt flipTime r wLo wHi killMode => Sys2Proof.Machine.execConfigure readRetries writeRetries vt rt flipTime r wLo wHi killMode s
  | .reset => Sys2Proof.Machine.execReset s
  | .mount tag => Sys2Proof.Machine.execMount tag s
  | .unmount tag options => Sys2Proof.Machine.execUnmount tag options s
  | .flushMap tag => Sys2Proof.Machine.execFlushMap tag s
  | .readMap options => Sys2Proof.Machine.execReadMap options s
  | .read tag lsn count options => Sys2Proof.Machine.execRead tag lsn count options s
  | .write tag lsn count options => Sys2Proof.Machine.execWrite tag lsn count options s
  | .erase tag lsn count options => Sys2Proof.Machine.execErase tag lsn count options s
  | .data tag lsn bytes => Sys2Proof.Machine.execData tag lsn bytes s
  | .cancel tag => Sys2Proof.Machine.execCancel tag s
  | .play pageId lsn lineLen lineCount => Sys2Proof.Machine.execPlay pageId lsn lineLen lineCount s
  | .stopPlay => Sys2Proof.Machine.execStopPlay s
  | .setRecorder invert mirror fill => Sys2Proof.Machine.execSetRecorder invert mirror fill s
  | .setPower kind b g k thetaRef d pmin pmax round => Sys2Proof.Machine.execSetPower kind b g k thetaRef d pmin pmax round s
  | .calcPower zone tempMode temp kind copy => Sys2Proof.Machine.execCalc zone tempMode temp kind copy s
  | .refusedFrame frame => Sys2Proof.Machine.execRefusedFrame frame s
  | .emptyFrame => Sys2Proof.Machine.execEmptyFrame s
  | .recordLeavesLane => Sys2Proof.Machine.execRecordLeavesLane s
  | .completionEntersQueue => Sys2Proof.Machine.execCompletionEntersQueue s
  | .replyPlaceHeld => Sys2Proof.Machine.execReplyPlaceHeld s
  | .hardwareReset cartridge kill => Sys2Proof.Machine.execHardwareReset cartridge kill s
  | .cartridgePresent => Sys2Proof.Machine.execCartridgePresent s
  | .cartridgeAbsent => Sys2Proof.Machine.execCartridgeAbsent s
  | .protectTab isSet => Sys2Proof.Machine.execProtectTab isSet s
  | .inhibitSecondStage => Sys2Proof.Machine.execInhibitSecondStage s
  | .ejectButton => Sys2Proof.Machine.execEjectButton s
  | .spindleAtSpeed => Sys2Proof.Machine.execSpindleAtSpeed s
  | .spindleStopped => Sys2Proof.Machine.execSpindleStopped s
  | .spinUpTimerExpiry => Sys2Proof.Machine.execSpinUpTimerExpiry s
  | .indexTimerExpiry => Sys2Proof.Machine.execIndexTimerExpiry s
  | .temperatureReading value => Sys2Proof.Machine.execTemperatureReading value s
  | .index => Sys2Proof.Machine.execIndex s
  | .cancelTakesEffect tag => Sys2Proof.Machine.execCancelTakesEffect tag s
  | .orphanRemoval => Sys2Proof.Machine.execOrphanRemoval s
  | .sectorMark header => Sys2Proof.Machine.execSectorMark header s
  | .sectorEnd outcome => Sys2Proof.Machine.execSectorEnd outcome s
  | .mapLoadDecision => Sys2Proof.Machine.execMapLoadDecision s
  | .mountComplete => Sys2Proof.Machine.execMountComplete s
  | .drained => Sys2Proof.Machine.execDrained s
  | .flushTakesSlots => Sys2Proof.Machine.execFlushTakesSlots s
  | .mapWriteClaimMet => Sys2Proof.Machine.execMapWriteClaimMet s
  | .streamClaimMet => Sys2Proof.Machine.execStreamClaimMet s
  | .flushSucceeds => Sys2Proof.Machine.execFlushSucceeds s
  | .flushFails => Sys2Proof.Machine.execFlushFails s
  | .seekDone => Sys2Proof.Machine.execSeekDone s
  | .seekFault => Sys2Proof.Machine.execSeekFault s
  | .seekTimerExpiry => Sys2Proof.Machine.execSeekTimerExpiry s
  | .recalibrationTimerExpiry => Sys2Proof.Machine.execRecalibrationTimerExpiry s
  | .offTrack => Sys2Proof.Machine.execOffTrack s
  | .focusLost => Sys2Proof.Machine.execFocusLost s
  | .focusRegained => Sys2Proof.Machine.execFocusRegained s
  | .refocusTimerExpiry => Sys2Proof.Machine.execRefocusTimerExpiry s
  | .magnetSense value => Sys2Proof.Machine.execMagnetSense value s
  | .flipTimerExpiry => Sys2Proof.Machine.execFlipTimerExpiry s
  | .settleTimeoutExpiry => Sys2Proof.Machine.execSettleTimeoutExpiry s
  | .lineRequest => Sys2Proof.Machine.execLineRequest s
  | .pageStart => Sys2Proof.Machine.execPageStart s
  | .killAsserted => Sys2Proof.Machine.execKillAsserted s
  | .killReleased => Sys2Proof.Machine.execKillReleased s
  | .frameLineDroppedAfterReset => Sys2Proof.Machine.execFrameLineDroppedAfterReset s

end Sys2Proof.Machine
end

