-- ==== Sys2Proof/Safety.lean ====
section
/-! DEFINITION. What the manual promises of every state of the J218, block by block, in the terms the statements use:
each predicate is an invariant that every step keeps. -/

namespace Sys2Proof.Machine

/-! ### When a command finds the part -/

/-- An inbound frame arrives in a state in which no internal step is due and the port holds its reply place (R184,
R186). -/
structure FrameArrives (s : State) : Prop where
  quiet : Quiet s
  held  : s.link.held = true
  begun : s.link.frameWait = false

/-! ### The supervisor (R14) -/

/-- The spindle order and the two timers follow the mount state as the table of R14 gives them. -/
structure FollowsMount (s : State) : Prop where
  spindle : s.sup.spindleRun = s.sup.mount.runs
  index   : s.sup.indexTimer = s.sup.mount.indexed
  spinUp  : s.sup.spinUpTimer = decide (s.sup.mount = .spinningUp)

/-- While the spindle is not ordered to speed with the index supervised, the mechanism's other blocks rest: the head
STOPPED (R72), the magnet UNSET (R118), no action open and no refocus awaited (R109). -/
structure RestsWhileStopped (s : State) : Prop where
  head    : s.sup.mount.indexed = false → s.planner.head = .stopped
  magnet  : s.sup.mount.indexed = false → s.magnet.state = .unset
  action  : s.sup.mount.indexed = false → s.seq.openAction = none
  refocus : s.sup.mount.indexed = false → s.seq.refocusTimer = false

/-! ### Sets and tables that hold each member once (R29, R35, R42, R191) -/

/-- The inhibit set and the condition set hold each member at most once, no two request records hold the same tag, and
no two jobs have the same id. -/
structure HoldsOnce (s : State) : Prop where
  inhibit    : s.sup.inhibit.Nodup
  conditions : s.conditions.Nodup
  tags       : (s.requests.map Request.tag).Nodup
  ids        : (s.jobs.map Job.id).Nodup

/-! ### The settings (R195) -/

/-- Every parameter of CONFIGURE lies in its range (R195). -/
structure Settings.InRange (c : Settings) : Prop where
  readRetries  : c.readRetries ≤ 15
  writeRetries : c.writeRetries ≤ 7
  vt           : c.vt ≤ 16
  rt           : c.vt ≤ c.rt ∧ c.rt ≤ 16
  flipTime     : 2 ≤ c.flipTime ∧ c.flipTime ≤ 16
  ringSize     : 8 ≤ c.ringSize ∧ c.ringSize ≤ 128
  wLo          : 1 ≤ c.wLo ∧ c.wLo ≤ c.ringSize - 1
  wHi          : c.wLo + 1 ≤ c.wHi ∧ c.wHi ≤ c.ringSize

/-! ### The temperature (R32) -/

/-- A held temperature lies in its range, and with no value the stale flag is clear (R32). -/
structure Supervisor.TemperatureLawful (s : Supervisor) : Prop where
  range : ∀ v, s.temperature = some v → -160 ≤ v ∧ v ≤ 500
  stale : s.temperature = none → s.stale = false

/-! ### The magnet (R112) -/

/-- The coil drive and the timers stand as the state table of R112 gives them. -/
def Magnet.Lawful (m : Magnet) : Prop :=
  match m.state with
  | .unset | .fault => m.coil = none ∧ m.flipRunning = false ∧ m.settleTimer = false
  | .toErase => m.coil = some .erase ∧ m.flipExpired = !m.flipRunning ∧ m.settleTimer = true
  | .toWrite => m.coil = some .write ∧ m.flipExpired = !m.flipRunning ∧ m.settleTimer = true
  | .erase => m.coil = some .erase ∧ m.flipRunning = false ∧ m.settleTimer = false
  | .write => m.coil = some .write ∧ m.flipRunning = false ∧ m.settleTimer = false

/-! ### The calculator (R123, R136) -/

/-- The limits of a coefficient set stand in order and within the DAC's range (R123). -/
structure Coefficients.Lawful (c : Coefficients) : Prop where
  ordered : c.pmin ≤ c.pmax
  range   : c.pmax ≤ 1023

/-- Both copies of a kind's set are lawful, and its code in force lies within the active limits (R123, R136). -/
structure PowerKind.Lawful (x : PowerKind) : Prop where
  staged : x.staged.Lawful
  active : x.active.Lawful
  code   : x.active.pmin ≤ x.code ∧ x.code ≤ x.active.pmax

/-- The three kinds are lawful (R136). -/
structure Power.Lawful (p : Power) : Prop where
  read  : p.read.Lawful
  erase : p.erase.Lawful
  write : p.write.Lawful

/-- The values the manual gives a range lie in it: the settings, the temperature, and the calculator's sets and codes. -/
structure ValuesInRange (s : State) : Prop where
  settings    : s.cfg.InRange
  temperature : s.sup.TemperatureLawful
  power       : s.power.Lawful

/-! ### The remap table (R143) -/

/-- At most 2,048 entries, and no two of them name one spare (R143). -/
structure Remap.Lawful (r : Remap) : Prop where
  count  : r.entries.length ≤ remapCapacity
  spares : (r.entries.map Entry.spare).Nodup

/-! ### The outbound queue (R186) -/

/-- The occupied places and the held one are together at most the 32 there are (R186). -/
def Link.Lawful (l : Link) : Prop := l.occupied.length + (if l.held then 1 else 0) ≤ queuePlaces

/-- The records composed and not yet gone from the lane, oldest first: those with a place and those without. -/
def Link.outbound (l : Link) : List Record := l.occupied ++ l.waiting

/-! ### The head (R65) -/

/-- Track, target and plan are present as the head-state table of R65 gives them. -/
def Planner.Lawful (p : Planner) : Prop :=
  match p.head with
  | .stopped | .unpositioned => p.current = none ∧ p.target = none ∧ p.plan = none
  | .seeking => p.current = none ∧ p.target.isSome ∧ p.plan = none
  | .recalibrating => p.current = none ∧ p.plan = none
  | .settled => p.current.isSome ∧ p.target = none ∧ p.plan = none
  | .revolving => p.current.isSome ∧ p.target = none ∧ p.plan.isSome
  | .refocusing => p.plan = none

/-! ### The tables together (R35, R36, R39, R43, R46, R47, R142, R143) -/

/-- Whether the owner of a job is a tag (R43). -/
def Owner.isTag : Owner → Bool
  | .tag _ => true
  | .stream | .refresh | .map => false

/-- Whether a map sector of a flush holds no slot of the reservation and has no job: not begun, or recorded FAILED. -/
def FlushSector.hasNoSlot : FlushSector → Bool
  | .noSlot | .failed _ => true
  | .waiting _ | .writing | .done => false

/-- What the kind of a job fixes of its record: its owner, whether it has an LSN and a slot, and whether it belongs to a
page (R43, R168); an LSN is in range; a job is HELD exactly while it names the job it is held behind (R47). -/
structure Job.Lawful (j : Job) : Prop where
  shape : match j.kind with
    | .hostRead | .hostWrite => j.owner.isTag = true ∧ j.lsn.isSome = true ∧ j.slot.isSome = true
    | .hostErase => j.owner.isTag = true ∧ j.lsn.isSome = true ∧ j.slot = none
    | .streamRead => j.owner = .stream ∧ j.lsn.isSome = true ∧ j.slot.isSome = true ∧ j.page.isSome = true
    | .refresh => j.owner = .refresh ∧ j.lsn.isSome = true ∧ j.slot.isSome = true
    | .mapRead => j.owner = .map ∧ j.lsn = none ∧ j.slot = none
    | .mapWrite => j.owner = .map ∧ j.lsn = none ∧ j.slot.isSome = true
  range : ∀ l ∈ j.lsn, l < lsnEnd
  held  : j.phase = .held ↔ j.heldBehind.isSome = true

/-- The tag of a DONE. -/
def Record.doneTag : Record → Option Nat
  | .done tag .. => some tag
  | _ => none

/-- The slot a DATA IN keeps reserved until it has left the lane (R41, R62). -/
def Record.slot : Record → Option Slot
  | .dataIn _ _ _ _ slot _ => some slot
  | _ => none

/-- The slots in every place a slot may be: the free pool, a job of a request, a refresh or a flush, the ring, a flush
reservation, a DATA IN on its way (R39). -/
def State.slotPlaces (s : State) : List Slot :=
  s.pool ++ s.jobs.filterMap Job.slot ++ s.stream.ringFree ++ s.stream.filled.map Filled.slot
    ++ (match s.remap.flush with | some f => f.reserved | none => [])
    ++ s.link.outbound.filterMap Record.slot

/-- Every tag is in use once; a DONE on its way belongs to a request in ENDED, and each request has one (R36, R58); a mount
or an unmount under way has its live request (R20, R21). -/
structure RequestsAgree (s : State) : Prop where
  tags    : (s.requests.map Request.tag).Nodup
  dones   : (s.link.outbound.filterMap Record.doneTag).Nodup
  ended   : ∀ tag ∈ s.link.outbound.filterMap Record.doneTag, ∃ r ∈ s.requests, r.tag = tag ∧ r.state = .ended
  mount   : ∀ m ∈ s.sup.mountCtx, ∃ r ∈ s.requests, r.tag = m.tag ∧ r.kind = .mount ∧ r.state ≠ .ended
  unmount : ∀ u ∈ s.sup.unmountCtx, ∀ tag ∈ u.tag, ∃ r ∈ s.requests, r.tag = tag ∧ r.kind = .unmount ∧ r.state ≠ .ended

/-- Each job has its own entry number and the shape of its kind; of two jobs that may not overtake each other the younger
is HELD (R47); a planned or open action serves a job that is not HELD, by the kind of the job (R66, R80). -/
structure JobsAgree (s : State) : Prop where
  ids    : (s.jobs.map Job.id).Nodup
  each   : ∀ j ∈ s.jobs, j.Lawful
  holds  : s.jobs.Pairwise fun o j => o.holds j = true → j.phase = .held
  plan   : ∀ p ∈ s.planner.plan, ∀ a ∈ p.actions, ∀ j ∈ s.jobs, j.id = a.job →
    j.phase ≠ .held ∧ (a.action = .read ↔ j.kind.writeType = false)
  opened : ∀ o ∈ s.seq.openAction, ∀ id ∈ o.job, ∀ j ∈ s.jobs, j.id = id →
    j.phase ≠ .held ∧ (o.action = .read ↔ j.kind.writeType = false)

/-- The remap entries stand in table order, so that an LSN has at most one ACTIVE and one PENDING entry (R143); each names a
spare of class SPARE and an LSN in range (R142); the owner of a PENDING entry is a write-type job of its LSN, redirected
to its spare (R144). -/
structure EntriesAgree (s : State) : Prop where
  order  : s.remap.entries.Pairwise fun a b => a.rank < b.rank
  lawful : s.remap.Lawful
  each   : ∀ e ∈ s.remap.entries, e.spare.cls = some .spare ∧ ∀ l ∈ e.lsn?, l < lsnEnd
  owners : ∀ e ∈ s.remap.entries, match e with
    | .pending l p o => ∃ j ∈ s.jobs,
        j.id = o ∧ j.kind.writeType = true ∧ j.lsn = some l ∧ j.target = p ∧ j.phase ≠ .held
    | _ => True

/-- A flush has its owner, an open FLUSH MAP of a mounted cartridge or the unmount in FLUSHING (R153, R154); before it has
its slots no sector has one; the MAP WRITE jobs are those of the sectors being written, one each, sector 16 only in its own
pass (R154). -/
structure FlushAgrees (s : State) : Prop where
  owner   : ∀ f ∈ s.remap.flush, match f.owner with
    | some tag => (s.sup.mount = .ready ∨ s.sup.mount = .unmounting) ∧
        ∃ r ∈ s.requests, r.tag = tag ∧ r.kind = .flushMap ∧ r.state ≠ .ended
    | none => s.sup.mount = .flushing
  waiting : ∀ f ∈ s.remap.flush, f.phase = .waitingForSlots → ∀ x ∈ f.sectors, x.hasNoSlot = true
  writing : ∀ j ∈ s.jobs, j.kind = .mapWrite →
    ∃ f ∈ s.remap.flush, f.sectors[j.target.sector]? = some .writing
  pass    : ∀ f ∈ s.remap.flush, f.phase = .writing0to15 → ∀ k, 16 ≤ k → f.sectors[k]? ≠ some .writing
  each    : s.jobs.Pairwise fun a b => a.kind = .mapWrite → b.kind = .mapWrite → a.target.sector ≠ b.target.sector

/-- A page has at least one sector and lies in range (R164, R165); the fetch pointer names a sector of a page (R167); a
released ring holds no slot, and no stream job is without a ring (R166). -/
structure StreamAgrees (s : State) : Prop where
  pages : ∀ p ∈ s.stream.active.toList ++ s.stream.pendingPage.toList,
    1 ≤ p.sectors ∧ p.startLsn + p.sectors ≤ lsnEnd
  fetch : ∀ q ∈ s.stream.fetch, ∃ p ∈ s.stream.pageAt q.1, q.2 < p.sectors
  ring  : s.stream.reserved = false →
    s.stream.ringFree = [] ∧ s.stream.filled = [] ∧ ∀ j ∈ s.jobs, j.kind ≠ .streamRead

/-- The tables of the part agree: each of the 256 slots is in exactly one place (R39), and requests, jobs, remap entries,
the flush and the stream stand to one another as their chapters say. -/
structure TablesAgree (s : State) : Prop where
  mount    : FollowsMount s
  requests : RequestsAgree s
  jobs     : JobsAgree s
  entries  : EntriesAgree s
  flush    : FlushAgrees s
  stream   : StreamAgrees s
  slots    : s.slotPlaces.Perm allSlots

/-! ### The ends of all work (R25, R27, R54, R180) -/

/-- The DONE of a request ended by removal or a fault: the counters as they stood, with the discarded jobs that disturb
(R59, R60). -/
def abortedDone (jobs : List Job) (reason : Reason) (r : Request) : Record :=
  .done r.tag .aborted reason
    { doneCount := r.doneCount, failed := r.failed, blank := r.blank, reassigned := r.reassigned
      disturbed := r.disturbed + jobs.countP fun j => decide (j.owner = .tag r.tag) && j.disturbs }
    (r.firstFailure.bind Prod.fst)

/-- Removal and a fault spin-down have this in common (R25, R27): every live request ends ABORTED and every page with the
outcome, each with its record, in order; no job is left, and the slots of the jobs, the ring and the flush are free; no page
and no ring is left; the magnet is UNSET, the head STOPPED, no action open, both timers and the refocus timer stopped, the
contexts discarded; and nothing else changes but the mount state, the inhibit set, the remap table and the condition set. -/
structure EndsAllWork (s t : State) (reason : Reason) (outcome : PageOutcome) : Prop where
  requests : t.requests.map Request.tag = s.requests.map Request.tag ∧ ∀ r ∈ t.requests, r.state = .ended
  outbound : t.link.outbound = s.link.outbound
    ++ (s.requests.filter fun r => decide (r.state ≠ .ended)).map (abortedDone s.jobs reason)
    ++ (s.stream.active.toList ++ s.stream.pendingPage.toList).map
        fun p => .pageDone p.pageId outcome p.lines p.fillLines p.killedLines p.failedSectors
  link     : t.link.held = s.link.held ∧ t.link.frameWait = s.link.frameWait ∧ t.link.offered = s.link.offered
  jobs     : t.jobs = []
  pool     : t.pool = s.pool ++ (s.jobs.filterMap Job.slot ++ s.stream.ringFree ++ s.stream.filled.map Filled.slot
    ++ match s.remap.flush with | some f => f.reserved | none => [])
  stream   : t.stream = { s.stream with
    active := none, pendingPage := none, reserved := false, ringFree := [], filled := [], fetch := none, readPos := 0
    pageReady := false, startTest := false }
  sup      : t.sup = { s.sup with
    mount := t.sup.mount, inhibit := t.sup.inhibit, spindleRun := false, secondStage := .idle, spinUpTimer := false
    indexTimer := false, mountCtx := none, unmountCtx := none }
  planner  : t.planner = { s.planner with
    head := .stopped, current := none, target := none, failures := 0, seekTimer := false, recalTimer := false
    plan := none }
  seq      : t.seq = { s.seq with openAction := none, refocusTimer := false }
  magnet   : t.magnet = { s.magnet with
    state := .unset, coil := none, flipRunning := false, flipExpired := false, settleTimer := false
    senseAgreed := false }
  rest     : t.cfg = s.cfg ∧ t.sram = s.sram ∧ t.power = s.power ∧ t.emitted = s.emitted ∧ t.pending = s.pending

/-! ### READ, WRITE and ERASE (R37, R38) -/

/-- The refusal of a READ, WRITE or ERASE: the first row of the table of R37 whose check fails. -/
def spanRefusal (kind : RequestKind) (tag lsn count options : Nat) (s : State) : Option Refused :=
  if 16 ≤ tag then some .badParameter
  else if ∃ r ∈ s.requests, r.tag = tag then some .tagBusy
  else if s.sup.mount = .unmounting ∨ s.sup.mount = .flushing then some .unmounting
  else if s.sup.mount ≠ .ready then some .notMounted
  else if kind ≠ .read ∧ s.sup.inhibit ≠ [] then some .writeInhibited
  else if count = 0 ∨ 64 < count ∨ ¬(options = 0 ∨ (options = 1 ∧ kind = .write)) then some .badParameter
  else if 464127 < lsn + count - 1 then some .range
  else if kind ≠ .erase ∧ s.available < count then some .bufferFull
  else if 256 - s.jobs.length < count then some .tableFull
  else none

/-- What the acceptance of a span of LSNs does (R38): the answer, the request record in OPEN, the reservation, and one job
for each LSN in ascending order at the young end of the table, under fresh entry numbers, held or released as R47 states
against the jobs already there; nothing else changes. -/
structure AcceptsSpan (s t : State) (kind : RequestKind) (jobKind : JobKind) (tag lsn count : Nat) (preErased : Bool)
    (answer : Record) (slots : List Slot) : Prop where
  link     : t.link = { s.link with occupied := s.link.occupied ++ [answer], held := false }
  requests : t.requests = s.requests ++ [
    { tag := tag, kind := kind, span := some (lsn, count), preErased := preErased, state := .opened
      outstanding := count, doneCount := 0, failed := 0, blank := 0, reassigned := 0, disturbed := 0
      firstFailure := none, abortReason := none }]
  pool     : s.pool = slots ++ t.pool
  jobs     : ∃ new, t.jobs = s.jobs ++ new ∧ new.length = count ∧ (new.map Job.id).Nodup ∧
    (∀ j ∈ new, ∀ o ∈ s.jobs, o.id ≠ j.id) ∧
    ∀ i (h : i < new.length),
      new[i].owner = .tag tag ∧ new[i].kind = jobKind ∧ new[i].preErased = preErased ∧ new[i].lsn = some (lsn + i) ∧
      new[i].target = s.effective (lsn + i) ∧ new[i].slot = slots[i]? ∧
      new[i].attempts = 1 + (if jobKind.writeType then s.cfg.writeRetries else s.cfg.readRetries) ∧
      new[i].idFailures = 0 ∧ new[i].sparesTried = 0 ∧ new[i].dataPresent = false ∧ new[i].touched = false ∧
      new[i].heldBehind = holder s.jobs new[i] ∧
      new[i].phase = (if (holder s.jobs new[i]).isSome then .held else new[i].firstPhase)
  rest     : t.sup = s.sup ∧ t.cfg = s.cfg ∧ t.sram = s.sram ∧ t.planner = s.planner ∧ t.seq = s.seq ∧
    t.magnet = s.magnet ∧ t.power = s.power ∧ t.remap = s.remap ∧ t.stream = s.stream ∧
    t.conditions = s.conditions ∧ t.emitted = s.emitted ∧ t.pending = s.pending

/-! ### Cut-offs (R99) -/

/-- The jobs after the open action is cut off: the job of a gated erase or write is back in NEED ERASE, no attempt consumed,
and every other job is as it was (R99). -/
def cutOffJobs (s : State) : List Job :=
  match s.seq.openAction with
  | some { gated := true, job := some id, .. } =>
      s.jobs.map fun j => if j.id = id then { j with phase := .needErase } else j
  | _ => s.jobs

/-! ### Seeks and flips (R67, R71, R84, R114) -/

/-- A seek to a track has been issued: the order, the timer, the target; the failures of another target do not count
(R67). The sweep direction is the elevator's (R82). -/
structure Seeks (s t : State) (track : Nat) : Prop where
  emitted : t.emitted = s.emitted ++ [.seek track]
  planner : t.planner = { s.planner with
    head := .seeking, target := some track, current := none, seekTimer := true, plan := none, sweep := t.planner.sweep
    failures := if s.planner.target = some track then s.planner.failures else 0 }

/-- A magnet whose flip toward a polarity has begun (R114). -/
def Magnet.turned (m : Magnet) (p : Polarity) : Magnet :=
  { m with
    state := if p = .erase then .toErase else .toWrite
    coil := some p, senseAgreed := false, flipRunning := true, flipExpired := false, settleTimer := true }

/-- The flip check of a seek to a track: some write-type job there that is not HELD needs the polarity the magnet does not
hold, and none anywhere needs the one it holds (R84). -/
def State.flipsWithSeek (s : State) (track : Nat) (held : Polarity) : Prop :=
  s.magnet.settled = some held ∧ (∃ j ∈ s.openWriters, j.target.track = track ∧ j.need = some held.other) ∧
    ∀ j ∈ s.openWriters, j.need ≠ some held

/-- The magnet after a seek to a track is issued on a job table: turned where R84 asks for it, as it was otherwise. -/
structure FlipsWithSeek (s t : State) (track : Nat) : Prop where
  turned : ∀ p, State.flipsWithSeek { t with magnet := s.magnet } track p → t.magnet = s.magnet.turned p.other
  kept   : (∀ p, ¬State.flipsWithSeek { t with magnet := s.magnet } track p) → t.magnet = s.magnet

/-- The seek choice of UNPOSITIONED on the job table of t: the unfilled stream job's track where the stream is urgent, else
the oldest workable job's; with no job workable the head stays UNPOSITIONED (R71). -/
structure ChoosesSeek (s t : State) : Prop where
  urgent : ∀ j, t.urgent = true → t.unfilledStreamJob = some j →
    Seeks s t j.target.track ∧ FlipsWithSeek s t j.target.track
  oldest : ∀ j, (t.urgent = false ∨ t.unfilledStreamJob = none) → t.jobs.find? Job.workable = some j →
    Seeks s t j.target.track ∧ FlipsWithSeek s t j.target.track
  none   : (t.urgent = false ∨ t.unfilledStreamJob = none) → t.jobs.find? Job.workable = none →
    t.planner = { s.planner with head := .unpositioned, current := none, target := none, plan := none } ∧
    t.emitted = s.emitted ∧ t.magnet = s.magnet
  sweep  : t.planner.sweep = s.planner.sweep

/-! ### The index decision (R56, R30, R74 to R79) -/

/-- The stream is urgent and its unfilled job lies on another track (R74). -/
def State.calledAway (t : State) (track : Nat) (j : Job) : Prop :=
  t.urgent = true ∧ t.unfilledStreamJob = some j ∧ j.target.track ≠ track

/-- The action of the oldest candidate on a sector among those whose next action passes a test (R75, R78). -/
def State.oldestOn (t : State) (track sector : Nat) (want : Action → Bool) : Option Planned :=
  ((t.candidates track).find? fun j => decide (j.target.sector = sector) && j.nextAction.any want).bind fun j =>
    j.nextAction.map fun a => { sector := sector, action := a, job := j.id }

/-- Whether an index may plan an action with the magnet and the inhibit set as they stand: an erase or a write only in its
own settled polarity and while the set is empty, a read action always (R76, R78). -/
def State.plansAction (s : State) (a : Action) : Bool :=
  match a.polarity with
  | some p => decide (s.magnet.settled = some p) && decide (s.sup.inhibit = [])
  | none => true

/-- Whether an index asks for a flip, where the magnet holds a polarity: no mutating action can be planned, and a candidate
needs the other polarity, or, with no open writer in need of the one it holds, some open writer needs the other (R76,
R77). -/
def State.asksFlip (s t : State) (track : Nat) (held : Polarity) : Prop :=
  s.magnet.settled = some held ∧ (s.sup.inhibit ≠ [] ∨ ∀ j ∈ t.candidates track, j.need ≠ some held) ∧
    ((∃ j ∈ t.candidates track, j.need = some held.other) ∨
      ((∀ j ∈ t.openWriters, j.need ≠ some held) ∧ ∃ j ∈ t.openWriters, j.need = some held.other))

/-- What an index event does to the job table before the planner decides: a cancel or an orphan removal that waited for an
index with the head REVOLVING, and a second stage that was due, have taken effect, and no claim that can be met is left
(R30, R40, R46, R56, R178). -/
structure IndexClears (s t : State) : Prop where
  cancels : ∀ r ∈ s.requests, r.state = .cancelling → ∀ j ∈ t.jobs, j.owner ≠ .tag r.tag
  orphans : s.planner.head = .revolving → ∀ j ∈ t.jobs, j.isOrphan = false
  writers : s.sup.secondStage ≠ .idle → s.sup.inhibit ≠ [] → ∀ j ∈ t.jobs, j.kind.writeType = false
  stage   : t.sup.secondStage = .idle
  claims  : t.streamClaimDue = false ∧ t.flushSlotsDue = false ∧ t.mapClaimDue = false

/-- The decision of an index on a track, on the job table it leaves (R74 to R79): called away, the head seeks; otherwise
every sector a candidate has a plannable action on carries that of the oldest one, an erase or a write before a read
action; a plan without actions is an idle revolution for a flip that a candidate waits for; and with nothing to do here the
elevator moves the head, or it stays SETTLED. -/
structure IndexDecides (s t : State) (track : Nat) : Prop where
  away    : ∀ j, t.calledAway track j →
    Seeks s t j.target.track ∧ FlipsWithSeek s t j.target.track ∧ t.planner.sweep = s.planner.sweep
  planned : (∀ j, ¬t.calledAway track j) → (∃ j ∈ t.candidates track, ∃ a, j.nextAction = some a ∧ s.plansAction a = true) →
    ∃ p, t.planner = { s.planner with head := .revolving, plan := some p } ∧ t.emitted = s.emitted ∧
      ∀ k, p.actions.find? (fun b => b.sector == k) =
        (t.oldestOn track k fun a => a.polarity.isSome && s.plansAction a).or
          (t.oldestOn track k fun a => a.polarity.isNone)
  flip    : (∀ j, ¬t.calledAway track j) → ∀ p, State.asksFlip s t track p → t.magnet = s.magnet.turned p.other
  noFlip  : (∀ j, ¬t.calledAway track j) → (∀ p, ¬State.asksFlip s t track p) → t.magnet = s.magnet
  idle    : (∀ j, ¬t.calledAway track j) →
    (∀ j ∈ t.candidates track, ∀ a, j.nextAction = some a → s.plansAction a = false) →
    (∃ p, t.magnet.movingToward = some p ∧ ∃ j ∈ t.candidates track, j.need = some p) →
    t.planner = { s.planner with
      head := .revolving
      plan := some { track := track, zone := trackZone track, mutating := none, actions := [] } } ∧
    t.emitted = s.emitted
  moves   : (∀ j, ¬t.calledAway track j) →
    (∀ j ∈ t.candidates track, ∀ a, j.nextAction = some a → s.plansAction a = false) →
    (∀ p, t.magnet.movingToward = some p → ∀ j ∈ t.candidates track, j.need ≠ some p) →
    let choice := elevator s.planner.sweep track ((t.jobs.filter Job.workable).map fun j => j.target.track)
    t.planner.sweep = choice.2 ∧
    match choice.1 with
    | some d => Seeks s t d
    | none => t.planner = { s.planner with head := .settled, plan := none, sweep := choice.2 } ∧ t.emitted = s.emitted

/-! ### What a sector mark sends (R96) -/

/-- What a gated action sends to the medium: a WRITE the 1,024 bytes of its job's slot, an ERASE nothing (R96). -/
def State.writtenData (s : State) (a : Planned) : List Emission :=
  match a.action with
  | .write => (s.job? a.job).toList.flatMap fun j => (j.slot.map fun slot => .data j.target (s.sram.readSlot slot)).toList
  | .erase | .read | .verify | .blankCheck => []

/-! ### The end of one job (R48, R51 to R59, R100 to R103) -/

/-- A job has left the table: the other jobs keep their order, each that was not held behind it is as it was, each that was,
and is not served by the read-after-write copy, is checked again, held behind another older job or released with its target
anew, and its planned action is withdrawn (R42, R47, R48, R51, R81). -/
structure LeavesTable (s t : State) (j : Job) : Prop where
  ids    : t.jobs.map Job.id = (s.jobs.filter fun o => decide (o.id ≠ j.id)).map Job.id
  others : ∀ o ∈ s.jobs, o.id ≠ j.id → o.heldBehind ≠ some j.id → o ∈ t.jobs
  held   : ∀ o ∈ s.jobs, o.id ≠ j.id → o.heldBehind = some j.id →
    (match holder ((s.jobs.filter fun k => decide (k.id ≠ j.id)).takeWhile fun k => decide (k.id ≠ o.id)) o with
      | some h => { o with heldBehind := some h }
      | none => { o with
          heldBehind := none, phase := o.firstPhase
          target := match o.lsn with | some l => t.effective l | none => o.target }) ∈ t.jobs
  plan   : t.planner = { s.planner with
    plan := s.planner.plan.map fun p => { p with actions := p.actions.filter fun a => decide (a.job ≠ j.id) } }

/-- The request of a tag has counted the end of one of its jobs, the outbound lane having been as given: it goes on, or,
with no job outstanding and no DATA IN of it unsent, it ends with its DONE (R58, R59). -/
structure RequestCounts (s t : State) (link : Link) (tag : Nat) (count : Request → Request) : Prop where
  others : ∀ q ∈ s.requests, q.tag ≠ tag → q ∈ t.requests
  goesOn : ∀ r, s.request? tag = some r →
    (0 < (count r).outstanding ∨ (r.kind = .read ∧ ∃ x ∈ link.outbound, x.isDataIn tag = true)) →
    t.request? tag = some (count r) ∧ t.link = link
  ends   : ∀ r, s.request? tag = some r → r.state ≠ .ended → (r.kind = .read ∨ r.kind = .write ∨ r.kind = .erase) →
    (count r).outstanding = 0 → (r.kind = .read → ∀ x ∈ link.outbound, x.isDataIn tag = false) →
    t.request? tag = some { count r with state := .ended } ∧
    t.link.outbound = link.outbound ++ [(count r).doneRecord none]

/-- A request that counts a failed job (R59). -/
def Request.failedJob (lsn : Option Nat) (reason : Reason) (r : Request) : Request :=
  { r with
    outstanding := r.outstanding - 1, failed := r.failed + 1
    firstFailure := match r.firstFailure with | some f => some f | none => some (lsn, reason) }

/-- A request that counts a job done; `reassigned` says that it is a write-type job that tried a spare (R59). -/
def Request.doneJob (blank reassigned : Bool) (r : Request) : Request :=
  { r with
    outstanding := r.outstanding - 1, doneCount := r.doneCount + 1
    blank := r.blank + (if blank then 1 else 0), reassigned := r.reassigned + (if reassigned then 1 else 0) }

/-- A read-type job has ended FAILED (R51, R101, R150, R168): a HOST READ returns its slot and is counted; a STREAM READ of
a page hands its slot to the ring filled with zero bytes, an orphan its slot free, nothing raised and nothing counted; a MAP
READ records FAILED for its sector. -/
structure ReadFails (s t : State) (j : Job) (reason : Reason) : Prop where
  left   : LeavesTable s t j
  host   : ∀ tag, j.kind = .hostRead → j.owner = .tag tag →
    RequestCounts s t s.link tag (Request.failedJob j.lsn reason) ∧ t.pool = s.pool ++ j.slot.toList ∧ t.sram = s.sram ∧
    t.stream = s.stream ∧ t.remap = s.remap ∧ t.conditions = s.conditions
  stream : ∀ place sector slot, j.kind = .streamRead → j.owner = .stream → j.page = some (place, sector) →
    j.slot = some slot → (s.stream.pageAt place).isSome = true →
    t.sram = s.sram.writeSlot slot zeroBytes ∧
    t.stream = { s.stream with
      filled := s.stream.filled ++ [{ place := place, sector := sector, slot := slot }]
      startTest := s.stream.startTest || s.stream.waiting
      active := if place = .active then
          s.stream.active.map fun p : Page => { p with failedSectors := p.failedSectors + 1 }
        else s.stream.active
      pendingPage := if place = .pending then
          s.stream.pendingPage.map fun p : Page => { p with failedSectors := p.failedSectors + 1 }
        else s.stream.pendingPage } ∧
    t.conditions = (s.raise .streamDataError).conditions ∧ t.pool = s.pool ∧ t.requests = s.requests ∧ t.link = s.link ∧
    t.remap = s.remap
  orphan : ∀ sector slot, j.kind = .streamRead → j.owner = .stream → j.page = some (.orphan, sector) → j.slot = some slot →
    let ringStays := s.stream.active ≠ none ∨ s.stream.pendingPage ≠ none ∨ s.stream.reserved = false ∨
      ∃ k ∈ s.jobs, k.id ≠ j.id ∧ k.isStream = true
    (ringStays → t.pool = s.pool ∧ t.stream = { s.stream with ringFree := t.stream.ringFree } ∧
      t.stream.ringFree.Perm (s.stream.ringFree ++ [slot])) ∧
    (¬ringStays → t.stream = { s.stream with reserved := false, ringFree := [], filled := [] } ∧
      t.pool.Perm (s.pool ++ s.stream.ringFree ++ [slot] ++ s.stream.filled.map Filled.slot)) ∧
    t.sram = s.sram ∧ t.conditions = s.conditions ∧ t.requests = s.requests ∧ t.link = s.link ∧ t.remap = s.remap
  map    : j.kind = .mapRead → j.owner = .map →
    t.remap = { s.remap with
      load := s.remap.load.map fun rs : List (Option LoadResult) => rs.set j.target.sector (some .failed) } ∧
    t.requests = s.requests ∧ t.link = s.link ∧ t.pool = s.pool ∧ t.sram = s.sram ∧ t.stream = s.stream ∧
    t.conditions = s.conditions

/-- A HOST WRITE, HOST ERASE or REFRESH has ended FAILED, the remap table and the condition set having been as given: its
PENDING entry is dropped, its slot is free, and its request counts it, or REFRESH FAILED is raised (R51, R147). -/
structure WriterFails (s t : State) (remap : Remap) (conditions : State) (j : Job) (reason : Reason) : Prop where
  left    : LeavesTable s t j
  remap   : t.remap = { remap with entries := remap.entries.filter fun e => !e.ownedBy j.id }
  pool    : t.pool = s.pool ++ j.slot.toList
  host    : ∀ tag, j.owner = .tag tag → RequestCounts s t s.link tag (Request.failedJob j.lsn reason) ∧
    t.conditions = conditions.conditions
  refresh : j.owner = .refresh → t.requests = s.requests ∧ t.link = s.link ∧
    t.conditions = (conditions.raise .refreshFailed).conditions
  rest    : t.sram = s.sram ∧ t.stream = s.stream ∧ t.sup = s.sup

/-- A HOST WRITE, HOST ERASE or REFRESH with no read held behind it, or a HOST ERASE, has ended DONE: its PENDING entry is
ACTIVE, its slot is free, and its request counts it (R51, R59, R146). -/
structure WriterDone (s t : State) (j : Job) : Prop where
  left    : LeavesTable s t j
  remap   : t.remap = s.remap.activateOwned j.id
  pool    : t.pool = s.pool ++ j.slot.toList
  host    : ∀ tag, j.owner = .tag tag →
    RequestCounts s t s.link tag (Request.doneJob false (decide (1 ≤ j.sparesTried)))
  refresh : j.owner = .refresh → t.requests = s.requests ∧ t.link = s.link
  rest    : t.sram = s.sram ∧ t.stream = s.stream ∧ t.conditions = s.conditions ∧ t.sup = s.sup

/-- A MAP WRITE of a flush has ended: its sector has recorded the result, its slot is free, and the FLUSH MAP that owns the
flush counts it, a first failure without an LSN (R51, R155, R156). -/
structure MapWriteEnds (s t : State) (f : FlushContext) (j : Job) (result : FlushSector) : Prop where
  left    : LeavesTable s t j
  pool    : t.pool = s.pool ++ j.slot.toList
  flush   : t.remap.flush = some { f with
    sectors := f.sectors.set j.target.sector result
    phase := if f.phase = .writing0to15 ∧ ∀ x ∈ (f.sectors.set j.target.sector result).take 16, x = .done then .writing16
      else f.phase }
  request : ∀ tag r, f.owner = some tag → s.request? tag = some r →
    (result = .done → t.request? tag = some (r.doneJob false false)) ∧
    ∀ reason, result = .failed reason → t.request? tag = some (r.failedJob none reason)
  rest    : t.link = s.link ∧ t.sram = s.sram ∧ t.stream = s.stream ∧ t.conditions = s.conditions ∧ t.sup = s.sup

/-- Whether a decoded field is what a job has written: the bytes of its slot, and for a MAP WRITE the image of its sector
(R102; assumption 9). -/
def State.Holds (s : State) (j : Job) (field : Field) : Prop :=
  if j.kind = .mapWrite then
    ∃ f m, s.remap.flush = some f ∧ fieldMapSector field = some m ∧ f.images[j.target.sector]? = some m
  else ∃ slot, j.slot = some slot ∧ fieldBytes field = s.sram.readSlot slot

/-- The completion of a verify or of a blank check that succeeds (R102, R103). -/
def State.CheckSucceeds (s : State) (a : Action) (j : Job) (o : ReadOutcome) : Prop :=
  match a with
  | .verify => ∃ c field, o = .good c field ∧ c ≤ s.cfg.vt ∧ s.Holds j field
  | .blankCheck => o = .blank
  | .erase | .write | .read => False

/-- A reading job that is delivered GOOD with more than Rt corrected symbols has asked for a refresh: with a slot available,
a free entry that no claim waits for, an empty inhibit set and no write-type job of the LSN, it is created behind the other
jobs with a copy of the bytes, held or released against them; otherwise REFRESH DROPPED is raised (R53, R105). -/
structure AsksRefresh (s t : State) (j : Job) (bytes : List Byte) : Prop where
  created : 0 < s.available → s.jobs.length < 256 → s.claimWaits = false → s.sup.inhibit = [] →
    (∀ o ∈ s.jobs, o.lsn = j.lsn → o.kind.writeType = false) →
    ∃ k older slot, t.jobs = older ++ [k] ∧
      older.map Job.id = (s.jobs.filter fun o => decide (o.id ≠ j.id)).map Job.id ∧ s.pool = slot :: t.pool ∧
      k.kind = .refresh ∧ k.owner = .refresh ∧ k.lsn = j.lsn ∧ k.slot = some slot ∧ k.dataPresent = true ∧
      k.sparesTried = 0 ∧ k.attempts = 1 + s.cfg.writeRetries ∧ k.id ≠ j.id ∧ (∀ o ∈ older, o.id ≠ k.id) ∧
      k.heldBehind = holder older k ∧ k.phase = (if (holder older k).isSome then .held else .needErase) ∧
      (∀ l, j.lsn = some l → k.target = s.effective l) ∧ t.sram.readSlot slot = bytes ∧ t.conditions = s.conditions
  dropped : (s.available = 0 ∨ 256 ≤ s.jobs.length ∨ s.claimWaits = true ∨ s.sup.inhibit ≠ [] ∨
      ∃ o ∈ s.jobs, o.lsn = j.lsn ∧ o.kind.writeType = true) →
    t.jobs.map Job.id = (s.jobs.filter fun o => decide (o.id ≠ j.id)).map Job.id ∧ t.pool = s.pool ∧
    t.conditions = (s.raise .refreshDropped).conditions

/-! ### A reason enters the set while a flush runs (R154) -/

/-- The slot of a map sector that a flush claims an entry for: one of the pass under way whose job is not created (R154). -/
def FlushContext.claimed (f : FlushContext) (k : Nat) : Option Slot :=
  match f.sectors[k]? with
  | some (.waiting slot) =>
      if (f.phase = .writing0to15 ∧ k < 16) ∨ (f.phase = .writing16 ∧ k = 16) then some slot else none
  | _ => none

/-- The flush has withdrawn every claim it held (R154): each of those sectors is recorded FAILED with the reason, its slot is
in the free pool, and the FLUSH MAP that owns the flush counts it, a first failure without an LSN. With no flush, or none that
holds a claim, nothing has changed. -/
structure ClaimsWithdrawn (s t : State) (reason : Reason) : Prop where
  remap    : t.remap = { s.remap with
    flush := s.remap.flush.map fun f => { f with
      sectors := f.sectors.mapIdx fun k x => if (f.claimed k).isSome then .failed reason else x } }
  pool     : t.pool.Perm (s.pool ++ match s.remap.flush with
    | some f => (List.range f.sectors.length).filterMap f.claimed
    | none => [])
  owner    : ∀ f tag, s.remap.flush = some f → f.owner = some tag →
    let n := ((List.range f.sectors.length).filterMap f.claimed).length
    t.requests = s.requests.map fun r : Request => if r.tag = tag then
        { r with
          outstanding := r.outstanding - n, failed := r.failed + n
          firstFailure := match r.firstFailure with
            | some x => some x
            | none => if n = 0 then none else some (none, reason) }
      else r
  requests : (∀ f tag, s.remap.flush = some f → f.owner ≠ some tag) → t.requests = s.requests

/-! ### The second inhibit stage (R30, R156) -/

/-- The write-type jobs of an owner other than the flush. -/
def State.writersOf (s : State) (owner : Owner) : List Job :=
  s.jobs.filter fun j => decide (j.owner = owner) && j.kind.writeType && decide (j.kind ≠ .mapWrite)

/-- The map sectors that the second stage records FAILED: those being written, or, of a flush that waits for its slots, all
17 (R30, R156). -/
def State.stageFails (s : State) (f : FlushContext) (k : Nat) : Bool :=
  (decide (k < 17) && decide (f.phase = .waitingForSlots) && decide (f.sectors[k]? = some .noSlot)) ||
    s.jobs.any fun j => decide (j.kind = .mapWrite) && decide (j.target.sector = k)

/-- The second stage has ended every write-type job FAILED with the reason given (R30): their slots are free, their PENDING
entries dropped; each read held behind one of them is released; their requests count them, a WRITE or ERASE without another
job ending with its DONE; a REFRESH among them raises REFRESH FAILED; and the flush records each of its sectors (R156). -/
structure WritersEnd (s t : State) (reason : Reason) : Prop where
  reads    : ∀ o ∈ s.jobs, o.kind.writeType = false →
    (∀ w ∈ s.jobs, w.kind.writeType = true → o.heldBehind ≠ some w.id) → o ∈ t.jobs
  released : ∀ o ∈ s.jobs, o.kind.writeType = false → (∃ w ∈ s.jobs, w.kind.writeType = true ∧ o.heldBehind = some w.id) →
    { o with
      heldBehind := none, phase := o.firstPhase
      target := match o.lsn with | some l => s.effective l | none => o.target } ∈ t.jobs
  pool     : t.pool = s.pool ++ (s.jobs.filter fun j => j.kind.writeType).filterMap Job.slot
  remap    : t.remap = { s.remap with
    entries := s.remap.entries.filter fun e => !s.jobs.any fun j => j.kind.writeType && e.ownedBy j.id
    flush := s.remap.flush.map fun f => { f with
      sectors := f.sectors.mapIdx fun k x => if s.stageFails f k then .failed reason else x } }
  requests : ∀ tag r, s.request? tag = some r → (∀ f, s.remap.flush = some f → f.owner ≠ some tag) →
    ∃ r', t.request? tag = some r' ∧ r'.failed = r.failed + (s.writersOf (.tag tag)).length ∧
      r'.outstanding = r.outstanding - (s.writersOf (.tag tag)).length ∧
      r'.firstFailure = (match r.firstFailure with
        | some x => some x
        | none => (s.writersOf (.tag tag)).head?.map fun j => (j.lsn, reason)) ∧
      (r.state ≠ .ended → (r.kind = .write ∨ r.kind = .erase) → s.writersOf (.tag tag) ≠ [] →
        r.outstanding = (s.writersOf (.tag tag)).length →
        r'.state = .ended ∧ ({ r' with state := r.state } : Request).doneRecord none ∈ t.link.outbound)
  flushMap : ∀ f tag r, s.remap.flush = some f → f.owner = some tag → s.request? tag = some r → s.writersOf (.tag tag) = [] →
    let n := (List.range f.sectors.length).countP (s.stageFails f)
    ∃ r', t.request? tag = some r' ∧ r'.failed = r.failed + n ∧ r'.outstanding = r.outstanding - n ∧
      r'.firstFailure = (match r.firstFailure with
        | some x => some x
        | none => if n = 0 then none else some (none, reason))
  refresh  : t.conditions =
    (if s.writersOf .refresh = [] then s else s.raise .refreshFailed).conditions

/-! ### Giving up on a track (R70) -/

/-- A job of a track that the planner gives up on and that is not reassigned: it ends FAILED (R70). -/
def Job.failsOn (track : Nat) (j : Job) : Bool :=
  decide (j.phase ≠ .held ∧ j.target.track = track) &&
    match j.kind with
    | .hostRead | .streamRead | .mapRead | .mapWrite => true
    | .hostWrite | .hostErase | .refresh => false

/-- A job of such a track that goes to reassignment (R70). -/
def Job.reassignedOn (track : Nat) (j : Job) : Bool :=
  decide (j.phase ≠ .held ∧ j.target.track = track) &&
    match j.kind with
    | .hostWrite | .hostErase | .refresh => true
    | .hostRead | .streamRead | .mapRead | .mapWrite => false

/-- What a STREAM READ of a page leaves in the ring when it ends FAILED: its slot, filled (R168). -/
def Job.filledAtFailure (j : Job) : Option Filled :=
  match j.kind, j.page, j.slot with
  | .streamRead, some (.active, sector), some slot => some { place := .active, sector := sector, slot := slot }
  | .streamRead, some (.pending, sector), some slot => some { place := .pending, sector := sector, slot := slot }
  | _, _, _ => none

/-- The ring slots that the STREAM READs of a track fill when the planner gives up on it, oldest first (R70, R168). -/
def State.filledAtGiveUp (s : State) (track : Nat) : List Filled :=
  (s.jobs.filter (Job.failsOn track)).filterMap Job.filledAtFailure

/-- Between two states a flush has come to its first FAILED record: MAP WRITE FAILED has entered the set (R156). -/
def mapWriteFailedEnters (s t : State) : Prop := .mapWriteFailed ∉ s.sup.inhibit ∧ .mapWriteFailed ∈ t.sup.inhibit

/-- The planner has given up on a track (R70): the jobs that stay stand before those that met claims (R46, assumption 2); a
job of the track that is not HELD has ended, each HOST READ counted with SEEK FAULT, or, where it writes, is redirected to a
PENDING spare, or ended where it has tried three; a STREAM READ has filled its ring slot with zero bytes, raised STREAM DATA
ERROR and counted as a failed sector of its page (R168), and a MAP READ has recorded FAILED (R150); every other job stays, a
HELD one that is released onto the track and one that a claim has made included (assumption 39). Where a MAP WRITE of the
track has ended, MAP WRITE FAILED has entered the set and its second stage has ended every write-type job (R30, R156; its
moment, assumption 40). Then the head, UNPOSITIONED, has made its seek choice on the table so left (R71). -/
structure GivesUp (s t : State) (track : Nat) : Prop where
  choice : ChoosesSeek
    { s with planner := { s.planner with failures := 0, target := none, recalTimer := false, seekTimer := false } } t
  jobs   : ∃ kept new, t.jobs = kept ++ new ∧ (∀ j ∈ new, j.kind = .streamRead ∨ j.kind = .mapWrite) ∧
    (∀ k ∈ kept, ∃ j ∈ s.jobs, j.id = k.id) ∧
    (∀ j ∈ s.jobs, j.kind.writeType = false ∨ ¬mapWriteFailedEnters s t →
      (j.phase ≠ .held → j.target.track ≠ track → j ∈ kept) ∧
      (j.phase = .held → ∃ k ∈ kept, k.id = j.id ∧ k.kind = j.kind ∧ k.lsn = j.lsn)) ∧
    (∀ j ∈ s.jobs, j.failsOn track = true → ∀ k ∈ kept, k.id ≠ j.id) ∧
    (∀ j ∈ s.jobs, j.reassignedOn track = true → 3 ≤ j.sparesTried → ∀ k ∈ kept, k.id ≠ j.id) ∧
    (∀ j lsn, ¬mapWriteFailedEnters s t → j ∈ s.jobs → j.reassignedOn track = true → j.sparesTried < 3 → j.lsn = some lsn →
      s.remap.entries.length + s.jobs.length ≤ 2048 →
      ∃ spare, spare.cls = some .spare ∧ .pending lsn spare j.id ∈ t.remap.entries ∧
        { j with
          target := spare, attempts := 1 + s.cfg.writeRetries, idFailures := 0, sparesTried := j.sparesTried + 1
          phase := .needErase } ∈ kept)
  flush  : FlushAgrees s → (∃ j ∈ s.jobs, j.failsOn track = true ∧ j.kind = .mapWrite) → .mapWriteFailed ∈ t.sup.inhibit
  stage  : FlushAgrees s → mapWriteFailedEnters s t →
    t.sup = { s.sup with inhibit := s.sup.inhibit ++ [.mapWriteFailed], secondStage := .idle } ∧
    (∀ j ∈ t.jobs, j.kind.writeType = false) ∧
    ∀ j ∈ s.jobs, j.kind.writeType = true → ∀ e ∈ t.remap.entries, e.ownedBy j.id = false
  sup    : ¬mapWriteFailedEnters s t → t.sup = s.sup
  reads  : ∀ tag r, s.request? tag = some r → (∀ j ∈ s.jobs, j.owner = .tag tag → j.kind = .hostRead) →
    (∀ f, s.remap.flush = some f → f.owner ≠ some tag) →
    let failed := s.jobs.filter fun j => decide (j.owner = .tag tag) && j.failsOn track
    ∃ r', t.request? tag = some r' ∧ r'.failed = r.failed + failed.length ∧
      r'.outstanding = r.outstanding - failed.length ∧
      r'.firstFailure = (match r.firstFailure with
        | some x => some x
        | none => failed.head?.map fun j => (j.lsn, .seekFault))
  loads  : ∀ rs, s.remap.load = some rs → ∃ rs', t.remap.load = some rs' ∧ rs'.length = rs.length ∧
    ∀ k, k < rs.length → rs'[k]? =
      if ∃ j ∈ s.jobs, j.failsOn track = true ∧ j.kind = .mapRead ∧ j.target.sector = k then some (some .failed) else rs[k]?
  stream : (s.stream.active ≠ none ∨ s.stream.pendingPage ≠ none) →
    let filled := s.filledAtGiveUp track
    let counted (place : Place) (p : Page) : Page :=
      { p with failedSectors := p.failedSectors + filled.countP fun x => decide (x.place = place) }
    t.stream.filled = s.stream.filled ++ filled ∧ t.stream.active = s.stream.active.map (counted .active) ∧
    t.stream.pendingPage = s.stream.pendingPage.map (counted .pending) ∧
    (filled ≠ [] → .streamDataError ∈ t.conditions) ∧
    (s.slotPlaces.Nodup → ∀ x ∈ filled, t.sram.readSlot x.slot = List.replicate 1024 0)

/-! ### Stored entries (R149) -/

/-- The entries of a snapshot as the map image stores them: ACTIVE with its LSN, RETIRED without, PENDING left out. -/
def storedEntries (entries : List Entry) : List StoredEntry :=
  entries.filterMap fun e => match e with
    | .active lsn spare => some { lsn := some lsn, spare := spare }
    | .retired spare => some { lsn := none, spare := spare }
    | .pending .. => none

/-! ### A flush's end (R156) -/

/-- The sectors of a flush that have no job and no result yet. -/
def FlushContext.uncreated (f : FlushContext) : Nat :=
  f.sectors.countP fun x => match x with | .noSlot | .waiting _ => true | .writing | .done | .failed _ => false

/-- The owner of a failed flush whose 17 results are in (R22, R156): a FLUSH MAP ends COMPLETE WITH ERRORS, as many sectors
as given recorded FAILED with the flush's end; an unmount goes on to SPINNING DOWN with MAP WRITE FAILED recorded. -/
structure FailedFlushEnds (s t : State) (f : FlushContext) (more : Nat) : Prop where
  flush   : t.remap.flush = none
  request : ∀ tag r reason lsn, f.owner = some tag → s.request? tag = some r → r.state = .opened → r.abortReason = none →
    r.firstFailure = some (lsn, reason) → 0 < r.failed →
    t.link.outbound = s.link.outbound ++ [.done r.tag .completeWithErrors reason
      { doneCount := r.doneCount, failed := r.failed + more, blank := r.blank, reassigned := r.reassigned
        disturbed := r.disturbed } lsn] ∧
    ∃ r', t.request? tag = some r' ∧ r'.state = .ended
  unmount : f.owner = none → t.sup.mount = .spinningDown ∧ t.sup.spindleRun = false ∧
    t.sup.unmountCtx = s.sup.unmountCtx.map (fun u : UnmountContext => { u with result := some .mapWriteFailed }) ∧
    t.requests = s.requests ∧ t.link = s.link

/-! ### Lines of a page (R172 to R175) -/

/-- Whether a line takes a sector of the PLAYING page out of the ring: every one of a page that it abandons (R173), and
otherwise one that lies wholly behind the new read position (R174). -/
def passedBy (s : State) (p : Page) (abandoned : Bool) (sector : Nat) : Bool :=
  (abandoned && !p.abandoned) || decide (1024 * (sector + 1) ≤ s.stream.readPos + p.lineLen)

/-- What a line that is not the page's last makes of its sectors (R173, R174): the filled slots of those it passes by are
free in the ring, and so are the slots of their stream jobs, which leave the table; the others stay; and the fetch pointer
moves off a page that is abandoned (where it already names the pending page it stays, assumption 43), or on to the sector of
the read position where it lay behind it. -/
structure PassesSectors (s t : State) (p : Page) (abandoned : Bool) : Prop where
  filled  : t.stream.filled =
    s.stream.filled.filter fun x => !(decide (x.place = .active) && passedBy s p abandoned x.sector)
  jobs    : t.jobs.map Job.id =
    (s.jobs.filter fun j => !(j.streamOf .active && j.page.any fun q => passedBy s p abandoned q.2)).map Job.id
  others  : ∀ j ∈ s.jobs, (j.streamOf .active && j.page.any fun q => passedBy s p abandoned q.2) = false →
    (∀ o ∈ s.jobs, (o.streamOf .active && o.page.any fun q => passedBy s p abandoned q.2) = true →
      j.heldBehind ≠ some o.id) → j ∈ t.jobs
  ring    : t.stream.ringFree.Perm (s.stream.ringFree ++
    (s.stream.filled.filter fun x => decide (x.place = .active) && passedBy s p abandoned x.sector).map Filled.slot ++
    (s.jobs.filter fun j => j.streamOf .active && j.page.any fun q => passedBy s p abandoned q.2).filterMap Job.slot)
  fetch   : t.stream.fetch = match s.stream.fetch with
    | some (.active, k) =>
        if passedBy s p abandoned k then
          if (abandoned = false ∨ p.abandoned = true) ∧ (s.stream.readPos + p.lineLen) / 1024 < p.sectors then
            some (.active, (s.stream.readPos + p.lineLen) / 1024)
          else if s.stream.pendingPage.isSome then some (.pending, 0) else none
        else some (.active, k)
    | other => other
  rest    : t.pool = s.pool ∧ t.stream.reserved = s.stream.reserved ∧ t.stream.pendingPage = s.stream.pendingPage

/-- A line of the PLAYING page has been emitted: the counters, the last line, the read position, and what the line makes of
the page's sectors (R172 to R174). After the Nth line the page has ended (R175): PAGE END, PAGE DONE, no PAGE READY; its
slots are free and its jobs gone; the pending page is the active one, in WAITING, or, with no page and no stream job left,
the ring is released. -/
structure AnswersLine (s t : State) (p : Page) (line : List Byte) (fill killed : Nat) (abandoned : Bool)
    (conditions : List Condition) : Prop where
  goesOn : p.lines + 1 < p.lineCount →
    t.emitted = s.emitted ++ [.line line] ∧
    t.stream.active = some { p with
      lines := p.lines + 1, fillLines := p.fillLines + fill, killedLines := p.killedLines + killed
      abandoned := abandoned, lastLine := some line } ∧
    t.stream.readPos = s.stream.readPos + p.lineLen ∧
    (∀ x ∈ t.stream.filled, x.place = .active → s.stream.readPos + p.lineLen < 1024 * (x.sector + 1)) ∧
    PassesSectors s t p abandoned ∧ t.link = s.link
  ends   : p.lineCount ≤ p.lines + 1 →
    t.emitted = s.emitted ++ [.line line, .pageEnd] ∧
    t.link.outbound = s.link.outbound ++
      [.pageDone p.pageId (if p.fillLines + fill = 0 then .complete else .underrun) (p.lines + 1) (p.fillLines + fill)
        (p.killedLines + killed) p.failedSectors] ∧
    t.stream.active = s.stream.pendingPage ∧ t.stream.pendingPage = none ∧ t.stream.pageReady = false ∧
    t.jobs.map Job.id = (s.jobs.filter fun j => !j.streamOf .active).map Job.id ∧
    (∀ q, s.stream.pendingPage = some q → t.stream.readPos = 0 ∧ t.stream.idleLen = q.lineLen ∧
      t.stream.filled = (s.stream.filled.filter fun x => decide (x.place ≠ .active)).map
        (fun x => { x with place := x.place.promote }) ∧ t.pool = s.pool ∧ t.stream.reserved = s.stream.reserved) ∧
    (s.stream.pendingPage = none → t.stream.readPos = s.stream.readPos + p.lineLen ∧
      t.stream.idleLen = s.stream.idleLen) ∧
    (s.stream.pendingPage = none → s.stream.reserved = true → (∀ j ∈ s.jobs, j.isStream = true → j.streamOf .active = true) →
      t.stream.reserved = false ∧ t.stream.ringFree = [] ∧ t.stream.filled = [] ∧
      t.pool.Perm (s.pool ++ s.stream.ringFree ++ s.stream.filled.map Filled.slot ++
        (s.jobs.filter Job.isStream).filterMap Job.slot)) ∧
    (s.stream.pendingPage = none → (∃ j ∈ s.jobs, j.isStream = true ∧ j.streamOf .active = false) →
      t.stream.reserved = s.stream.reserved ∧ t.pool = s.pool)
  rest   : t.conditions = conditions ∧ t.requests = s.requests ∧ t.sup = s.sup ∧ t.sram = s.sram

/-! ### The kill of a page (R177) -/

/-- The PLAYING page has left the ring at an EDGE kill (R166, R177): its stream jobs are gone; the fetch pointer has moved off
it; the pending page's jobs and filled slots, where there is one, are the active page's; every slot of the page is free in
the ring, or, with no page and no stream job left, the ring is released and all its slots are free in the pool. -/
structure PageLeavesRing (s t : State) : Prop where
  jobs     : t.jobs.map Job.id = (s.jobs.filter fun j => !j.streamOf .active).map Job.id
  others   : ∀ j ∈ s.jobs, j.streamOf .active = false →
    (∀ o ∈ s.jobs, o.streamOf .active = true → j.heldBehind ≠ some o.id) →
    { j with page := if s.stream.pendingPage.isSome then j.page.map (fun p => (p.1.promote, p.2)) else j.page } ∈ t.jobs
  fetch    : t.stream.fetch = match s.stream.pendingPage, s.stream.fetch with
    | some _, some (.active, _) => some (.active, 0)
    | some _, some (place, k) => some (place.promote, k)
    | none, some (.active, _) => none
    | _, other => other
  kept     : (s.stream.pendingPage ≠ none ∨ s.stream.reserved = false ∨
      ∃ j ∈ s.jobs, j.isStream = true ∧ j.streamOf .active = false) →
    t.stream.reserved = s.stream.reserved ∧ t.pool = s.pool ∧
    t.stream.filled = (s.stream.filled.filter fun x => decide (x.place ≠ .active)).map
      (fun x => if s.stream.pendingPage.isSome then { x with place := x.place.promote } else x) ∧
    t.stream.ringFree.Perm (s.stream.ringFree ++ (s.jobs.filter (Job.streamOf .active)).filterMap Job.slot ++
      (s.stream.filled.filter fun x => decide (x.place = .active)).map Filled.slot)
  released : s.stream.pendingPage = none → s.stream.reserved = true →
    (∀ j ∈ s.jobs, j.isStream = true → j.streamOf .active = true) →
    t.stream.reserved = false ∧ t.stream.ringFree = [] ∧ t.stream.filled = [] ∧
    t.pool.Perm (s.pool ++ s.stream.ringFree ++ s.stream.filled.map Filled.slot ++
      (s.jobs.filter Job.isStream).filterMap Job.slot)

/-! ### FLUSH MAP and PLAY (R153, R165) -/

/-- The refusal of a FLUSH MAP: the first row of the table of R153 whose check fails. -/
def flushRefusal (tag : Nat) (s : State) : Option Refused :=
  if 16 ≤ tag then some .badParameter
  else if ∃ r ∈ s.requests, r.tag = tag then some .tagBusy
  else if s.sup.mount = .unmounting ∨ s.sup.mount = .flushing then some .unmounting
  else if s.sup.mount ≠ .ready then some .notMounted
  else if s.remap.flush ≠ none then some .busy
  else if s.remap.dirty = true ∧ s.sup.inhibit ≠ [] then some .writeInhibited
  else none

/-- The refusal of a PLAY: the first row of the table of R165 whose check fails. -/
def playRefusal (lsn lineLen lineCount : Nat) (s : State) : Option Refused :=
  if s.sup.mount = .unmounting ∨ s.sup.mount = .flushing then some .unmounting
  else if s.sup.mount ≠ .ready then some .notMounted
  else if lineLen < 16 ∨ 8192 < lineLen ∨ lineCount = 0 ∨ 65535 < lineCount then some .badParameter
  else if 464127 < lsn + (lineLen * lineCount + 1023) / 1024 - 1 then some .range
  else if s.stream.active ≠ none ∧ s.stream.pendingPage ≠ none then some .busy
  else if s.stream.reserved = false ∧ s.available < s.cfg.ringSize then some .bufferFull
  else none

/-! ### Outbound records as bytes (R189, R190, R198, R199, R201, R202) -/

/-- A number in a field of so many bytes, the high byte first (R198). -/
def bigEndian (bytes v : Nat) : List Byte := (List.range bytes).map fun i => BitVec.ofNat 8 (v / 256 ^ (bytes - 1 - i))

/-- The two's complement of a number in a field of so many bytes (R198). -/
def twosComplement (bytes : Nat) (v : Int) : List Byte := bigEndian bytes (v % 256 ^ bytes).toNat

/-- A set field: the sum of the weights of the bits that are set, bit 0 first (R198). -/
def bitField (bits : List Bool) : Nat := (bits.zipIdx.map fun b => if b.1 then 2 ^ b.2 else 0).sum

/-- The LSN field: 0xFFFFFF where the LSN is absent (R199). -/
def lsnField (l : Option Nat) : List Byte := bigEndian 3 (match l with | some l => l | none => 0xFFFFFF)

/-- The seven bytes of an entry of a MAP REPORT (R198, R199, R201). -/
def entryField (e : Entry) : List Byte :=
  let state := match e with | .pending .. => 0 | .active .. => 1 | .retired .. => 2
  bigEndian 1 state ++ lsnField e.lsn? ++ bigEndian 2 e.spare.track ++ bigEndian 1 e.spare.sector

/-- The payload of a STATUS REPORT, field by field by the table of R202. -/
def statusLayout (r : StatusReport) : List Byte :=
  bigEndian 1 ([Mount.empty, .loaded, .spinningUp, .mapping, .ready, .unmounting, .flushing, .spinningDown].idxOf r.mount)
  ++ bigEndian 1 (bitField ([Inhibit.tab, .mapDamaged, .mapWriteFailed, .magnetFault].map fun i => decide (i ∈ r.inhibit)))
  ++ bigEndian 1 ([Head.stopped, .unpositioned, .seeking, .recalibrating, .settled, .revolving, .refocusing].idxOf r.head)
  ++ bigEndian 2 (match r.track with | some t => t | none => 0xFFFF)
  ++ bigEndian 1 ([MagnetState.unset, .toErase, .erase, .toWrite, .write, .fault].idxOf r.magnet)
  ++ bigEndian 1 ([Sense.none, .erase, .write].idxOf r.lastSense)
  ++ bigEndian 1 r.live ++ bigEndian 2 r.jobs ++ bigEndian 2 r.freeSlots ++ bigEndian 1 r.depth ++ bigEndian 1 r.readyRun
  ++ bigEndian 1 (if r.activePage = .waiting then 1 else if r.activePage = .playing then 2 else 0)
  ++ bigEndian 1 (if r.pendingPage = .pending then 1 else 0) ++ bigEndian 1 (if r.ring then 1 else 0)
  ++ bigEndian 2 r.readCode ++ bigEndian 2 r.eraseCode ++ bigEndian 2 r.writeCode
  ++ twosComplement 2 (match r.temperature with | some v => v | none => 0)
  ++ bigEndian 1 (if r.temperature = none then 0 else if r.stale then 2 else 1)
  ++ bigEndian 2 r.entries ++ bigEndian 1 (if r.dirty then 1 else 0)
  ++ bigEndian 1 (bitField [r.sticky.ovf, r.sticky.limLow, r.sticky.limHigh, r.sticky.stale])
  ++ bigEndian 1 (if r.conditions then 1 else 0)

/-- The kind code and the payload of each outbound record, as the tables of R189, R190, R201 and R202 lay them out. -/
def Record.layout : Record → Nat × List Byte
  | .taken _ kind clamps => (0x80, bigEndian 1 kind ++ bigEndian 2 clamps)
  | .refused _ reason kind => (0x81, bigEndian 1 (([.parity, .unknownKind, .badLength, .tagBusy, .noSuchTag, .noCartridge,
      .notMounted, .busy, .unmounting, .writeInhibited, .range, .bufferFull, .tableFull, .badParameter, .dataUnexpected,
      .dataDuplicate] : List Refused).idxOf reason + 1) ++ bigEndian 1 kind)
  | .done _ outcome reason c first => (0x82,
      bigEndian 1 ([DoneOutcome.complete, .completeWithErrors, .cancelled, .aborted].idxOf outcome)
      ++ bigEndian 1 c.doneCount ++ bigEndian 1 c.failed ++ bigEndian 1 c.blank ++ bigEndian 1 c.reassigned ++ lsnField first
      ++ bigEndian 1 (([.none, .seekFault, .idNotFound, .uncorrectable, .spareLimit, .noSpare, .writeInhibited, .magnetFault,
        .mapDamaged, .mapWriteFailed, .mediumRemoved, .spindleFault, .headFault] : List Reason).idxOf reason)
      ++ bigEndian 1 c.disturbed)
  | .dataIn _ lsn blank c _ bytes => (0x83, bigEndian 3 lsn ++ bigEndian 1 (if blank then 1 else 0) ++ bigEndian 1 c ++ bytes)
  | .pageDone pageId outcome lines fillLines killedLines failedSectors => (0x84,
      bigEndian 1 pageId ++ bigEndian 1 (([.complete, .underrun, .killed, .stopped, .mediumRemoved, .spindleFault,
        .headFault] : List PageOutcome).idxOf outcome)
      ++ bigEndian 2 lines ++ bigEndian 2 fillLines ++ bigEndian 2 killedLines
      ++ bigEndian 2 (if 65535 < failedSectors then 65535 else failedSectors))
  | .statusReport r => (0x90, statusLayout r)
  | .senseReport conditions sticky => (0x91,
      bigEndian 2 (bitField (([.resetOccurred, .cartridgeInserted, .cartridgeRemoved, .ejectRequested, .spindleFault,
        .headFault, .shock, .magnetFault, .mapFull, .refreshDropped, .refreshFailed, .streamDataError, .underrun,
        .recorderKill, .temperatureInvalid, .powerLimits] : List Condition).map fun c => decide (c ∈ conditions)))
      ++ bigEndian 1 (bitField [sticky.ovf, sticky.limLow, sticky.limHigh, sticky.stale]))
  | .mapReport r => (0x92,
      bigEndian 1 ([MapStatus.none, .loading, .loaded, .damaged].idxOf r.status) ++ bigEndian 4 r.generation.toNat
      ++ bigEndian 1 (if r.dirty then 1 else 0) ++ bigEndian 2 r.count ++ bigEndian 1 (if r.atEnd then 1 else 0)
      ++ bigEndian 1 r.entries.length ++ r.entries.flatMap entryField)
  | .calcReport code acc flags => (0x93,
      bigEndian 2 code ++ twosComplement 3 acc
      ++ bigEndian 1 (bitField [flags.ovf, flags.limLow, flags.limHigh, flags.stale, flags.deadband]))

/-! ### A valid map image (R151) -/

/-- The order of two stored entries of a valid image: those with an LSN first, by LSN, then the retired ones by spare
(R151). -/
def StoredEntry.before (a b : StoredEntry) : Prop :=
  match a.lsn, b.lsn with
  | some l, some m => l < m
  | some _, none => True
  | none, some _ => False
  | none, none => a.spare.precedes b.spare = true

/-- The conditions of R151 on the 17 sectors of an image, each of which carries the signature. -/
structure ValidImage (ms : List MapSector) : Prop where
  numbers : ms.length = 17 ∧ ∀ (k : Nat) (m : MapSector), ms[k]? = some m → m.number = k
  oneGeneration : ∀ m ∈ ms, ∀ n ∈ ms, m.generation = n.generation
  counts  : ∀ m ∈ ms, m.count ≤ 126 ∧ m.entries.length = m.count
  packed  : ∀ (i k : Nat) (m n : MapSector), i < k → ms[i]? = some m → ms[k]? = some n → 0 < n.count → m.count = 126
  total   : (ms.map MapSector.count).sum ≤ 2048
  order   : (ms.flatMap MapSector.entries).Pairwise StoredEntry.before
  range   : ∀ e ∈ ms.flatMap MapSector.entries, ∀ l ∈ e.lsn, l ≤ 464127
  spares  : ∀ e ∈ ms.flatMap MapSector.entries, e.spare.cls = some .spare
  once    : ((ms.flatMap MapSector.entries).map StoredEntry.spare).Nodup

/-! ### Rounding (R131) -/

/-- A quotient by 256 rounded to the nearest integer, a half going to the even one (R131). -/
def NearestEven (acc q : Int) : Prop :=
  -128 ≤ acc - 256 * q ∧ acc - 256 * q ≤ 128 ∧ (acc - 256 * q = 128 ∨ acc - 256 * q = -128 → q % 2 = 0)

end Sys2Proof.Machine
end

