-- ==== Sys2Proof/Certificates/Slice0/Obligations.lean ====
section
/-! DEFINITION. The statements for the provers, one proposition each, chapter by chapter after those about the machine as a
whole. `FrameArrives s` and `Quiet s` say in which states a command finds no internal step due, so that the state it leaves
is its own effect alone; a statement about every state follows with `settle`. -/

section Statements

open Sys2Proof Sys2Proof.Machine

/-! ### The machine as a whole -/

/-- One step takes the command at the front of the queue and gives it the state with the queue's rest; with an empty
queue it takes the due internal steps, and idles where none is due (the model's queue, assumption 1). -/
def Obligations.StepTakesTheFrontCommand : Prop :=
  (∀ (c : Instr) (rest : List Instr) (s : State), s.pending = c :: rest → step s = exec c (s.withPending rest)) ∧
  (∀ s : State, s.pending = [] → step s = .next (settle s) ∧ (Quiet s → step s = .next s))

/-- No command stops the part: each answers a next state in every state, with every operand. -/
def Obligations.EveryCommandAnswersNext : Prop :=
  ∀ (c : Instr) (s : State), ∃ t, exec c s = .next t

/-- A frame that finds no reply place held is not begun: it is offered until a place is held, and is then begun as the part's
own step, its effect that of its arrival at that moment (R184, R186; that it waits in the port's list, and the moment it is
begun, assumptions 2 and 4). A frame that the port meets while it waits for the frame line to drop changes nothing (R197). -/
def Obligations.FrameWithoutReplyPlaceIsNotBegun : Prop :=
  ∀ (c : Instr) (s : State), (c.kindCode.isSome = true ∨ ∃ frame, c = .refusedFrame frame) →
    (Quiet s → s.link.frameWait = true → exec c s = .next s) ∧
    (Quiet s → s.link.frameWait = false → s.link.held = false →
      exec c s = .next { s with link := { s.link with offered := s.link.offered ++ [c] } }) ∧
    (s.link.offered = [c] →
      let taken := { s with link := { s.link with offered := [] } }
      FrameArrives taken → ∃ t, takeDue s = some t ∧ exec c taken = .next t)

/-- The values the manual gives for hardware reset, with no cartridge in the drive (the sampled input: assumption 5). -/
def Obligations.ResetHoldsTheStatedValues : Prop :=
  State.reset.sup.mount = .empty ∧ State.reset.sup.spindleRun = false ∧ State.reset.sup.inhibit = [] ∧
  State.reset.sup.temperature = none ∧ State.reset.sup.stale = false ∧ State.reset.sup.spinUpTimer = false ∧
  State.reset.sup.indexTimer = false ∧ State.reset.sup.mountCtx = none ∧ State.reset.sup.unmountCtx = none ∧
  State.reset.cfg = { readRetries := 3, writeRetries := 2, vt := 4, rt := 12, flipTime := 10, ringSize := 32, wLo := 8,
                      wHi := 24, killMode := .level } ∧
  State.reset.requests = [] ∧ State.reset.jobs = [] ∧ State.reset.pool.length = 256 ∧ State.reset.pool.Nodup ∧
  State.reset.planner = { head := .stopped, current := none, target := none, sweep := .outward, failures := 0,
                          seekTimer := false, recalTimer := false, plan := none } ∧
  State.reset.seq = { killLatch := false, position := 0, openAction := none, refocusTimer := false } ∧
  State.reset.laser = .off ∧
  State.reset.magnet = { state := .unset, coil := none, flipRunning := false, flipExpired := false,
                         settleTimer := false, senseAgreed := false, lastSense := .none } ∧
  State.reset.power.read.active = { b := 96, g := 0, k := 0, thetaRef := 100, d := 4, pmin := 40, pmax := 160,
                                    round := .nearest } ∧
  State.reset.power.erase.active = { b := 480, g := 256, k := -64, thetaRef := 100, d := 4, pmin := 240, pmax := 880,
                                     round := .nearest } ∧
  State.reset.power.write.active = { b := 520, g := 320, k := -80, thetaRef := 100, d := 4, pmin := 240, pmax := 960,
                                     round := .nearest } ∧
  (∀ k, (State.reset.power.get k).staged = (State.reset.power.get k).active ∧
    (State.reset.power.get k).switchPending = false ∧ (State.reset.power.get k).generation = 0 ∧
    (State.reset.power.get k).key = none ∧ (State.reset.power.get k).code = (State.reset.power.get k).active.pmin) ∧
  State.reset.power.sticky = { ovf := false, limLow := false, limHigh := false, stale := false } ∧
  State.reset.remap = { entries := [], status := .none, dirty := false, generation := 0, fullMark := false, load := none,
                        flush := none, cursor := .start } ∧
  State.reset.stream.active = none ∧ State.reset.stream.pendingPage = none ∧ State.reset.stream.reserved = false ∧
  State.reset.stream.fetch = none ∧ State.reset.stream.readPos = 0 ∧ State.reset.orphanCount = 0 ∧
  State.reset.stream.staged = { invert := false, mirror := false, fill := .white } ∧
  State.reset.stream.inForce = { invert := false, mirror := false, fill := .white } ∧
  State.reset.stream.idleLen = 16 ∧ State.reset.stream.pageReady = false ∧ State.reset.pageDoneList = [] ∧
  State.reset.completionList = [] ∧ State.reset.link.occupied = [] ∧ State.reset.link.held = false ∧
  State.reset.conditions = [.resetOccurred] ∧ State.reset.attn = true

/-! ### Invariants of every step -/

/-- The invariants of Safety.lean hold right after hardware reset, among them that each of the 256 slots is in exactly one
place (R39). -/
def Obligations.InvariantsHoldAtReset : Prop :=
  FollowsMount State.reset ∧ RestsWhileStopped State.reset ∧ HoldsOnce State.reset ∧ ValuesInRange State.reset ∧
  State.reset.magnet.Lawful ∧ State.reset.remap.Lawful ∧ State.reset.link.Lawful ∧ State.reset.planner.Lawful ∧
  State.reset.sram.wf ∧ TablesAgree State.reset

/-- The spindle order, the spin-up timer and the index timer follow the mount state by the table of R14; outside
MAPPING, READY, UNMOUNTING and FLUSHING the head is STOPPED, the magnet UNSET, no action open and no refocus awaited
(R72, R109, R118). -/
def Obligations.StepKeepsMountStateLaws : Prop :=
  (∀ s t : State, FollowsMount s → step s = .next t → FollowsMount t) ∧
  (∀ s t : State, RestsWhileStopped s → step s = .next t → RestsWhileStopped t)

/-- Reasons, conditions, tags and job ids stand at most once; the remap table holds at most 2,048 entries and no two name
the same spare (R29, R35, R42, R143, R191). The tables agree with one another, each of the 256 slots in exactly one place
(R39); from which the remap table holds at most one ACTIVE and one PENDING entry of an LSN, in table order: by LSN, ACTIVE
before PENDING, then RETIRED by spare (R143), and that no MAP WRITE owns an entry. -/
def Obligations.StepKeepsTableLaws : Prop :=
  (∀ s t : State, HoldsOnce s → step s = .next t → HoldsOnce t) ∧
  (∀ s t : State, s.remap.Lawful → step s = .next t → t.remap.Lawful) ∧
  (∀ s t : State, TablesAgree s → step s = .next t → TablesAgree t) ∧
  (∀ s : State, TablesAgree s →
    (∀ slot : Slot, s.slotPlaces.count slot = 1) ∧
    (∀ lsn : Nat, (s.remap.entries.filter fun e => e.isActiveOf lsn).length ≤ 1 ∧
      (s.remap.entries.filter fun e => e.isPending && decide (e.lsn? = some lsn)).length ≤ 1) ∧
    (∀ j ∈ s.jobs, j.kind = .mapWrite → ∀ e ∈ s.remap.entries, e.ownedBy j.id = false) ∧
    s.remap.entries.Pairwise fun a b =>
      match a.lsn?, b.lsn? with
      | some l, some m => l < m ∨ (l = m ∧ a.isPending = false ∧ b.isPending = true)
      | some _, none => True
      | none, some _ => False
      | none, none => a.spare.precedes b.spare = true)

/-- Every setting, the temperature, every coefficient set's limits and every laser code lie in their ranges (R32, R123, R136,
R195). -/
def Obligations.StepKeepsValuesInRange : Prop :=
  ∀ s t : State, ValuesInRange s → step s = .next t → ValuesInRange t

/-- The coil drive and the magnet's timers stand as the state table of R112 gives them; current track, target track and
plan are present as the head-state table of R65 gives them. -/
def Obligations.StepKeepsMagnetAndHeadLaws : Prop :=
  (∀ s t : State, s.magnet.Lawful → step s = .next t → t.magnet.Lawful) ∧
  (∀ s t : State, s.planner.Lawful → step s = .next t → t.planner.Lawful)

/-- The occupied places and the held one never exceed the 32 of the outbound queue (R186), and the buffer SRAM keeps its
canonical form. -/
def Obligations.StepKeepsQueueAndMemoryLaws : Prop :=
  (∀ s t : State, s.link.Lawful → step s = .next t → t.link.Lawful) ∧
  (∀ s t : State, s.sram.wf → step s = .next t → t.sram.wf)

/-! ### Frames as bytes (R184, R185, R189, R198 to R200) -/

/-- Every well-formed command that has a kind code has a frame, and reading it back gives the command, with every operand.
An outbound record is framed as its kind code, its tag byte, the length and the payload of the tables of R189, R201 and
R202, each byte with odd parity (R184, R198, R199); an answer and a DONE carry their tag, a report 0xFF (R60, R187); that a
DATA IN carries the tag of its READ is the model's reading, and the tag byte of a PAGE DONE is left free (assumption 10). -/
def Obligations.FramesReadBack : Prop :=
  (∀ (i : Instr) (bytes : List Byte), i.wellFormed = true → encodeFrame i = some bytes → decodeFrame bytes = some i) ∧
  (∀ i : Instr, i.wellFormed = true → i.kindCode.isSome = true →
    ∃ bytes, encodeFrame i = some bytes ∧ decodeFrame bytes = some i) ∧
  (∀ r : Record,
    r.frame = bigEndian 1 r.layout.1 ++ [r.tagByte] ++ bigEndian 2 r.layout.2.length ++ r.layout.2 ∧
    r.onLane.map Prod.fst = r.frame ∧
    (∀ b ∈ r.onLane, ((List.range 8).countP (fun i => b.1.getLsbD i) + (if b.2 then 1 else 0)) % 2 = 1) ∧
    match r with
    | .taken tag .. | .refused tag .. | .done tag .. | .dataIn tag .. => r.tagByte = BitVec.ofNat 8 tag
    | .statusReport _ | .senseReport .. | .mapReport _ | .calcReport .. => r.tagByte = 0xFF
    | .pageDone .. => True)

/-- The frame-level checks of R185 in their order, each with its refusal, its tag and its refused kind; a frame refused here
changes nothing but the answer's place. -/
def Obligations.RefusedFrameIsAnsweredByTheFirstFailedCheck : Prop :=
  ∀ (kind : Byte) (p : Bool) (rest : List (Byte × Bool)) (s : State), FrameArrives s →
    let frame := (kind, p) :: rest
    let tag := match rest with | [] => 0xFF | (t, _) :: _ => t.toNat
    let lengthField := ((rest.map Prod.fst).getD 1 0).toNat * 256 + ((rest.map Prod.fst).getD 2 0).toNat
    ((∃ b ∈ frame, oddParity b = false) →
      exec (.refusedFrame frame) s = .next (s.reply (.refused 0xFF .parity 0))) ∧
    ((∀ b ∈ frame, oddParity b = true) → payloadLength kind.toNat = none →
      exec (.refusedFrame frame) s = .next (s.reply (.refused tag .unknownKind kind.toNat))) ∧
    (∀ n, (∀ b ∈ frame, oddParity b = true) → payloadLength kind.toNat = some n →
      (frame.length < 4 ∨ frame.length - 4 ≠ lengthField ∨ lengthField ≠ n) →
      exec (.refusedFrame frame) s = .next (s.reply (.refused tag .badLength kind.toNat)))

/-! ### The link (Chapter 10) -/

/-- An answer enters the queue in the held place; a composed record enters at once where a place is free and no record
waits, and otherwise waits behind the others; a waiting record, then the held place, take a place that is free (R186, R188);
and each of the two steps does nothing where it is not due (the model's choice, assumption 3). -/
def Obligations.OutboundPlacesGoInOrder : Prop :=
  (∀ (r : Record) (s : State),
    s.reply r = { s with link := { s.link with occupied := s.link.occupied ++ [r], held := false } }) ∧
  (∀ (r : Record) (s : State),
    s.compose r = { s with link :=
      if s.link.waiting = [] ∧ s.link.occupied.length + (if s.link.held then 1 else 0) < 32 then
        { s.link with occupied := s.link.occupied ++ [r] }
      else { s.link with waiting := s.link.waiting ++ [r] } }) ∧
  (∀ (r : Record) (rest : List Record) (s : State), s.link.waiting = r :: rest →
    s.link.occupied.length + (if s.link.held then 1 else 0) < 32 →
    exec .completionEntersQueue s =
      .next { s with link := { s.link with occupied := s.link.occupied ++ [r], waiting := rest } }) ∧
  (∀ s : State, s.link.waiting = [] → s.link.held = false → s.link.occupied.length < 32 →
    exec .replyPlaceHeld s = .next { s with link := { s.link with held := true } }) ∧
  (∀ s : State, (s.link.waiting = [] ∨ 32 ≤ s.link.occupied.length + (if s.link.held then 1 else 0)) →
    exec .completionEntersQueue s = .next s) ∧
  (∀ s : State, (s.link.waiting ≠ [] ∨ s.link.held = true ∨ 32 ≤ s.link.occupied.length) →
    exec .replyPlaceHeld s = .next s)

/-- When a record has left the lane its place is free; a DONE frees its tag; a DATA IN returns its slot and ends its READ
where it was the last unsent one, or, its READ having ended already, returns its slot alone; with nothing in the queue the
event changes nothing (R36, R41, R58, R62, R184). -/
def Obligations.LeavingRecordFreesWhatItHolds : Prop :=
  ∀ s : State, Quiet s →
    (s.link.occupied = [] → exec .recordLeavesLane s = .next s) ∧
    (∀ tag o reason c first rest, s.link.occupied = .done tag o reason c first :: rest →
      exec .recordLeavesLane s = .next { s with
        link := { s.link with occupied := rest }, emitted := s.emitted ++ [.sent (.done tag o reason c first)]
        requests := s.requests.filter fun r => r.tag != tag }) ∧
    (∀ tag lsn blank c slot bytes rest q, s.link.occupied = .dataIn tag lsn blank c slot bytes :: rest →
      s.request? tag = some q → q.kind = .read → q.state ≠ .ended →
      exec .recordLeavesLane s = .next (
        let t := { s with
          link := { s.link with occupied := rest }, pool := s.pool ++ [slot]
          emitted := s.emitted ++ [.sent (.dataIn tag lsn blank c slot bytes)] }
        if q.outstanding = 0 ∧ ∀ r ∈ rest ++ s.link.waiting, r.isDataIn tag = false then
          ({ t with requests := t.requests.map (fun r : Request => if r.tag = tag then { r with state := .ended } else r) }).compose
            (q.doneRecord none)
        else t)) ∧
    (∀ tag lsn blank c slot bytes rest, s.link.occupied = .dataIn tag lsn blank c slot bytes :: rest →
      (∀ q, s.request? tag = some q → q.state = .ended) →
      exec .recordLeavesLane s = .next { s with
        link := { s.link with occupied := rest }, pool := s.pool ++ [slot]
        emitted := s.emitted ++ [.sent (.dataIn tag lsn blank c slot bytes)] }) ∧
    (∀ r rest, s.link.occupied = r :: rest → (r.kind ≠ 0x82 ∧ r.kind ≠ 0x83) →
      exec .recordLeavesLane s =
        .next { s with link := { s.link with occupied := rest }, emitted := s.emitted ++ [.sent r] })

/-- STATUS reports the live values as they stand and changes no state; its payload is 31 bytes. SENSE reports the
condition set and the sticky flags, then empties the one and clears the other, and ATTN is dropped (R193, R194, R202).
-/
def Obligations.StatusAndSenseReportLiveValues : Prop :=
  (∀ s : State, FrameArrives s →
     exec .status s = .next (s.reply (.statusReport
       { mount := s.sup.mount, inhibit := s.sup.inhibit, head := s.planner.head
         track := match s.planner.current with | some t => some t | none => s.planner.target
         magnet := s.magnet.state, lastSense := s.magnet.lastSense
         live := (s.requests.filter fun r => decide (r.state ≠ .ended)).length, jobs := s.jobs.length
         freeSlots := s.pool.length, depth := s.link.occupied.length, readyRun := s.stream.readyRun
         activePage := match s.stream.active with
           | none => .absent
           | some p => if p.started then .playing else .waiting
         pendingPage := if s.stream.pendingPage.isSome then .pending else .absent
         ring := s.stream.reserved, readCode := s.power.read.code, eraseCode := s.power.erase.code
         writeCode := s.power.write.code, temperature := s.sup.temperature, stale := s.sup.stale
         entries := s.remap.entries.length, dirty := s.remap.dirty, sticky := s.power.sticky
         conditions := !s.conditions.isEmpty })) ∧
     (Record.statusReport s.statusReport).payload.length = 31) ∧
  (∀ s : State, FrameArrives s →
     ∃ t, exec .sense s = .next t ∧ t.attn = false ∧
       t = { s.reply (.senseReport s.conditions s.power.sticky) with
         conditions := []
         power := { s.power with sticky := { ovf := false, limLow := false, limHigh := false, stale := false } } })

/-- CONFIGURE in EMPTY and LOADED writes the nine parameters, each clamped in the order of R195, and its clamp set names
those whose received value differed; in every other state it is refused BUSY and changes nothing. -/
def Obligations.ConfigureClampsInOrder : Prop :=
  ∀ (readRetries writeRetries vt rt flipTime r wLo wHi killMode : Nat) (s : State), FrameArrives s →
    let vt' := min 16 vt
    let rt' := max vt' (min 16 rt)
    let flip' := max 2 (min 16 flipTime)
    let r' := max 8 (min 128 r)
    let lo' := max 1 (min (r' - 1) wLo)
    let hi' := max (lo' + 1) (min r' wHi)
    ((s.sup.mount = .empty ∨ s.sup.mount = .loaded) →
      ∃ clamps : Nat, exec (.configure readRetries writeRetries vt rt flipTime r wLo wHi killMode) s =
        .next { s.reply (.taken 0xFF 0x03 clamps) with
          cfg := { readRetries := min 15 readRetries, writeRetries := min 7 writeRetries, vt := vt', rt := rt'
                   flipTime := flip', ringSize := r', wLo := lo', wHi := hi'
                   killMode := if killMode = 0 then .level else .edge } } ∧
        clamps.testBit 0 = decide (15 < readRetries) ∧ clamps.testBit 1 = decide (7 < writeRetries) ∧
        clamps.testBit 2 = decide (16 < vt) ∧ clamps.testBit 3 = decide (rt' ≠ rt) ∧
        clamps.testBit 4 = decide (flip' ≠ flipTime) ∧ clamps.testBit 5 = decide (r' ≠ r) ∧
        clamps.testBit 6 = decide (lo' ≠ wLo) ∧ clamps.testBit 7 = decide (hi' ≠ wHi) ∧
        clamps.testBit 8 = decide (1 < killMode) ∧ clamps < 512) ∧
    (s.sup.mount ≠ .empty → s.sup.mount ≠ .loaded →
      exec (.configure readRetries writeRetries vt rt flipTime r wLo wHi killMode) s =
        .next (s.reply (.refused 0xFF .busy 0x03)))

/-- The soft reset of RESET: the collections, the outbound queue and the condition set emptied, every slot free, TAKEN the
only record; each block as its own chapter says (R34, R64, R89, R111, R120, R140, R162, R183, R196). That the SRAM keeps
its bytes (assumption 6) and the order of the emptied pool (assumption 7) are the model's choice. -/
def Obligations.SoftResetActsBlockByBlock : Prop :=
  ∀ s : State, FrameArrives s →
    ∃ t, exec .reset s = .next t ∧
      t.requests = [] ∧ t.jobs = [] ∧ t.pool = allSlots ∧ t.conditions = [] ∧
      t.link = { s.link with occupied := [.taken 0xFF 0x04 0], waiting := [], held := false } ∧
      t.sup.inhibit = s.sup.inhibit ∧ t.sup.temperature = s.sup.temperature ∧ t.sup.stale = s.sup.stale ∧
      t.sup.mountCtx = none ∧ t.sup.unmountCtx = none ∧
      t.sup.mount = (match s.sup.mount with
        | .spinningUp | .mapping => .spinningDown
        | .unmounting | .flushing => .ready
        | m => m) ∧
      t.seq.killLatch = false ∧ t.seq.position = 0 ∧ t.seq.openAction = none ∧
      t.power = { s.power with sticky := { ovf := false, limLow := false, limHigh := false, stale := false } } ∧
      t.remap = { s.remap with entries := s.remap.entries.filter fun e => !e.isPending, flush := none, load := none
                               cursor := .start } ∧
      t.stream = { s.stream with
        active := none, pendingPage := none, reserved := false, ringFree := [], filled := [], fetch := none, readPos := 0
        pageReady := false, startTest := false } ∧
      t.cfg = s.cfg ∧ t.sram = s.sram ∧ t.emitted = s.emitted ∧ t.pending = s.pending ∧
      (s.sup.mount ≠ .spinningUp → s.sup.mount ≠ .mapping →
        t.magnet = s.magnet ∧ t.seq.refocusTimer = s.seq.refocusTimer ∧ t.sup.indexTimer = s.sup.indexTimer ∧
        t.planner = { s.planner with
          failures := 0, plan := none, head := if s.planner.head = .revolving then .settled else s.planner.head
          target := if s.planner.head = .recalibrating then none else s.planner.target }) ∧
      ((s.sup.mount = .spinningUp ∨ s.sup.mount = .mapping) →
        t.magnet = s.magnet.unset ∧ t.planner = s.planner.stop ∧ t.sup.spindleRun = false ∧
        t.sup.indexTimer = false ∧ t.sup.spinUpTimer = false)

/-- Hardware reset leaves the state after reset with the cartridge and kill inputs as sampled; the SRAM's bytes, the tab
input and the model's own records stay (the model's choice, assumptions 6 and 28). The empty frame is no frame: nothing is
dispatched, a held place stays held, and a frame whose strobe was left unanswered is withdrawn (R184; which of several,
assumption 4; that it leaves the wait of R197 as it is, assumption 45). The drop of the frame line after a reset ends the
port's wait (R33, R197). -/
def Obligations.HardwareResetAndTheFrameLine : Prop :=
  ∀ s : State, Quiet s →
    (∀ cartridge kill, exec (.hardwareReset cartridge kill) s = .next { State.reset with
      sup := { State.reset.sup with mount := if cartridge then .loaded else .empty, tabInput := s.sup.tabInput }
      stream := { State.reset.stream with killLevel := kill }
      sram := s.sram, emitted := s.emitted, pending := s.pending }) ∧
    exec .emptyFrame s = .next { s with link := { s.link with offered := s.link.offered.tail } } ∧
    exec .frameLineDroppedAfterReset s = .next { s with link := { s.link with frameWait := false } }

/-! ### Cartridge handling (Chapter 2) -/

/-- MOUNT: the checks of R36 and R17 in order, and in LOADED the request record, the mount context, the RUN order and the
spin-up timer. -/
def Obligations.MountBeginsInLoaded : Prop :=
  ∀ (tag : Nat) (s : State), FrameArrives s →
    (16 ≤ tag → exec (.mount tag) s = .next (s.reply (.refused tag .badParameter 0x10))) ∧
    (tag < 16 → (∃ r ∈ s.requests, r.tag = tag) →
      exec (.mount tag) s = .next (s.reply (.refused tag .tagBusy 0x10))) ∧
    (tag < 16 → (∀ r ∈ s.requests, r.tag ≠ tag) → s.sup.mount = .empty →
      exec (.mount tag) s = .next (s.reply (.refused tag .noCartridge 0x10))) ∧
    (tag < 16 → (∀ r ∈ s.requests, r.tag ≠ tag) → s.sup.mount ≠ .empty → s.sup.mount ≠ .loaded →
      exec (.mount tag) s = .next (s.reply (.refused tag .busy 0x10))) ∧
    (tag < 16 → (∀ r ∈ s.requests, r.tag ≠ tag) → s.sup.mount = .loaded →
      exec (.mount tag) s = .next { s.reply (.taken tag 0x10 0) with
        requests := s.requests ++ [
          { tag := tag, kind := .mount, span := none, preErased := false, state := .opened, outstanding := 0
            doneCount := 0, failed := 0, blank := 0, reassigned := 0, disturbed := 0, firstFailure := none
            abortReason := none }]
        sup := { s.sup with
          mount := .spinningUp, spindleRun := true, spinUpTimer := true
          mountCtx := some { tag := tag, mapLeg := false, magnetLeg := false, reason := none } } })

/-- UNMOUNT: the checks of R36 and R21 in order, and in READY the request record, the unmount context, UNMOUNTING, and the
cancel of every WRITE in OPEN with a job without data. -/
def Obligations.UnmountBeginsInReady : Prop :=
  ∀ (tag options : Nat) (s : State), FrameArrives s →
    (16 ≤ tag → exec (.unmount tag options) s = .next (s.reply (.refused tag .badParameter 0x11))) ∧
    (tag < 16 → (∃ r ∈ s.requests, r.tag = tag) →
      exec (.unmount tag options) s = .next (s.reply (.refused tag .tagBusy 0x11))) ∧
    (tag < 16 → (∀ r ∈ s.requests, r.tag ≠ tag) → (s.sup.mount = .empty ∨ s.sup.mount = .loaded) →
      exec (.unmount tag options) s = .next (s.reply (.refused tag .notMounted 0x11))) ∧
    (tag < 16 → (∀ r ∈ s.requests, r.tag ≠ tag) → s.sup.mount ≠ .empty → s.sup.mount ≠ .loaded → s.sup.mount ≠ .ready →
      exec (.unmount tag options) s = .next (s.reply (.refused tag .busy 0x11))) ∧
    (tag < 16 → (∀ r ∈ s.requests, r.tag ≠ tag) → s.sup.mount = .ready →
      exec (.unmount tag options) s = .next { s.reply (.taken tag 0x11 0) with
        requests := (s.requests.map fun r : Request =>
            if r.kind = .write ∧ r.state = .opened ∧ ∃ j ∈ s.jobs, j.owner = .tag r.tag ∧ j.dataPresent = false then
              { r with state := .cancelling }
            else r) ++ [
          { tag := tag, kind := .unmount, span := none, preErased := false, state := .opened, outstanding := 0
            doneCount := 0, failed := 0, blank := 0, reassigned := 0, disturbed := 0, firstFailure := none
            abortReason := none }]
        sup := { s.sup with
          mount := .unmounting, spindleRun := true
          unmountCtx := some { tag := some tag, eject := decide (options % 2 = 1), result := none } } })

/-- A cartridge-present event in EMPTY leads to LOADED and raises CARTRIDGE INSERTED; in any other state it changes nothing
(R16). The eject button gives the EJECT order in LOADED and begins an untagged unmount with EJECT in READY; a press in any
other state is ignored (R24). -/
def Obligations.CartridgePresentAndEjectButton : Prop :=
  ∀ s : State, Quiet s →
    (s.sup.mount = .empty → exec .cartridgePresent s = .next { s.raise .cartridgeInserted with
      sup := { s.sup with mount := .loaded, spindleRun := false } }) ∧
    (s.sup.mount ≠ .empty → exec .cartridgePresent s = .next s) ∧
    (s.sup.mount = .loaded → exec .ejectButton s = .next { s with emitted := s.emitted ++ [.eject] }) ∧
    (s.sup.mount = .ready → exec .ejectButton s = .next { s.raise .ejectRequested with
      requests := s.requests.map fun r : Request =>
        if r.kind = .write ∧ r.state = .opened ∧ ∃ j ∈ s.jobs, j.owner = .tag r.tag ∧ j.dataPresent = false then
          { r with state := .cancelling }
        else r
      sup := { s.sup with
        mount := .unmounting, spindleRun := true
        unmountCtx := some { tag := none, eject := true, result := none } } }) ∧
    (s.sup.mount ≠ .loaded → s.sup.mount ≠ .ready → exec .ejectButton s = .next s)

/-- Cartridge removal by mount state: nothing in EMPTY; EMPTY and CARTRIDGE REMOVED from LOADED; in any other state all work
ends with MEDIUM REMOVED, the remap table is emptied, and of the inhibit set only MAGNET FAULT stays (R25). The
order of the DONE records (assumption 13), the order in which the slots join the pool (assumption 35) and the clearing of a
second stage that is due (assumption 30) are the model's choice. -/
def Obligations.RemovalEndsAllWork : Prop :=
  ∀ s : State, Quiet s → (s.requests.map Request.tag).Nodup →
    (s.sup.mount = .empty → exec .cartridgeAbsent s = .next s) ∧
    (s.sup.mount = .loaded → exec .cartridgeAbsent s = .next { s.raise .cartridgeRemoved with
      sup := { s.sup with mount := .empty, spindleRun := false } }) ∧
    (s.sup.mount ≠ .empty → s.sup.mount ≠ .loaded → ∃ t, exec .cartridgeAbsent s = .next t ∧
      EndsAllWork s t .mediumRemoved .mediumRemoved ∧ t.sup.mount = .empty ∧
      t.sup.inhibit = s.sup.inhibit.filter (· == .magnetFault) ∧
      t.remap = { entries := [], status := .none, dirty := false, generation := 0, fullMark := false, load := none
                  flush := none, cursor := s.remap.cursor } ∧
      t.conditions = (s.raise .cartridgeRemoved).conditions)

/-- The index timer and the refocus timer, where they run, expire in a fault spin-down: all work ends with the fault's reason,
its condition is raised, and the state is SPINNING DOWN (R26, R27, R109); the expiry of a timer that does not run changes
nothing (the model's choice, assumption 3). So are the order of the DONE records (assumption 13) and of the slots in
the pool (assumption 35), the clearing of a second stage that is due (assumption 30), and the map status that an abandoned
load leaves (assumption 21). -/
def Obligations.FaultTimersSpinDown : Prop :=
  ∀ s : State, Quiet s → (s.requests.map Request.tag).Nodup →
    (s.sup.indexTimer = true → ∃ t, exec .indexTimerExpiry s = .next t ∧ EndsAllWork s t .spindleFault .spindleFault ∧
      t.sup.mount = .spinningDown ∧ t.sup.inhibit = s.sup.inhibit ∧
      t.remap = { s.remap with entries := s.remap.entries.filter fun e => !e.isPending, flush := none, load := none } ∧
      t.conditions = (s.raise .spindleFault).conditions) ∧
    (s.seq.refocusTimer = true → ∃ t, exec .refocusTimerExpiry s = .next t ∧ EndsAllWork s t .headFault .headFault ∧
      t.sup.mount = .spinningDown ∧ t.sup.inhibit = s.sup.inhibit ∧
      t.remap = { s.remap with entries := s.remap.entries.filter fun e => !e.isPending, flush := none, load := none } ∧
      t.conditions = (s.raise .headFault).conditions) ∧
    (s.sup.indexTimer = false → exec .indexTimerExpiry s = .next s) ∧
    (s.seq.refocusTimer = false → exec .refocusTimerExpiry s = .next s)

/-- The spindle-stopped event: ignored in EMPTY and LOADED; an unordered stop ends all work and passes to LOADED at once,
the table emptied; a stop in SPINNING DOWN reaches LOADED, empties the table (R160) and completes the unmount with its DONE
and its EJECT order (R23, R28). The spin-up timer, where it runs, ends the MOUNT ABORTED with SPINDLE FAULT, raises the
condition and leads to SPINNING DOWN; the spindle-stopped event in SPINNING UP does the same and reaches LOADED (R19). The
expiry of a timer that does not run changes nothing (the model's choice, assumption 3). In an unordered stop the order of
the DONE records (assumption 13) and of the slots in the pool (assumption 35), and in every one of these the clearing of a
second stage that is due (assumption 30), are the model's choice. -/
def Obligations.SpindleStopsAndFailedSpinUps : Prop :=
  (∀ s : State, Quiet s → s.sup.spinUpTimer = false → exec .spinUpTimerExpiry s = .next s) ∧
  (∀ s : State, Quiet s → (s.requests.map Request.tag).Nodup →
     ((s.sup.mount = .empty ∨ s.sup.mount = .loaded) → exec .spindleStopped s = .next s) ∧
     ((s.sup.mount = .mapping ∨ s.sup.mount = .ready ∨ s.sup.mount = .unmounting ∨ s.sup.mount = .flushing) →
       ∃ t, exec .spindleStopped s = .next t ∧ EndsAllWork s t .spindleFault .spindleFault ∧ t.sup.mount = .loaded ∧
         t.sup.inhibit = s.sup.inhibit.filter (· == .magnetFault) ∧
         t.remap = { entries := [], status := .none, dirty := false, generation := 0, fullMark := false, load := none
                     flush := none, cursor := s.remap.cursor } ∧
         t.conditions = (s.raise .spindleFault).conditions) ∧
     (s.sup.mount = .spinningDown →
       ∃ t, exec .spindleStopped s = .next t ∧
         t.sup = { s.sup with mount := .loaded, spindleRun := false, unmountCtx := none
                              inhibit := s.sup.inhibit.filter (· == .magnetFault) } ∧
         t.remap = { entries := [], status := .none, dirty := false, generation := 0, fullMark := false, load := none
                     flush := none, cursor := s.remap.cursor } ∧
         t.emitted = s.emitted ++ (if s.sup.unmountCtx.any UnmountContext.eject then [.eject] else []) ∧
         (∀ u tag r, s.sup.unmountCtx = some u → u.tag = some tag → s.request? tag = some r →
           t.link.outbound = s.link.outbound ++ [r.doneRecord u.result]) ∧
         ((s.sup.unmountCtx.bind UnmountContext.tag = none) → t.link = s.link ∧ t.requests = s.requests) ∧
         t.jobs = s.jobs ∧ t.pool = s.pool ∧ t.conditions = s.conditions ∧ t.stream = s.stream ∧ t.planner = s.planner ∧
         t.seq = s.seq ∧ t.magnet = s.magnet ∧ t.power = s.power ∧ t.cfg = s.cfg ∧ t.sram = s.sram ∧
         t.pending = s.pending)) ∧
  (∀ (s : State) (m : MountContext) (r : Request), Quiet s → s.sup.mountCtx = some m → s.request? m.tag = some r →
     (s.requests.map Request.tag).Nodup → s.jobs = [] →
     (s.sup.spinUpTimer = true → ∃ t, exec .spinUpTimerExpiry s = .next t ∧ t.sup.mount = .spinningDown ∧
       t.sup.spindleRun = false ∧ t.sup.spinUpTimer = false ∧ t.sup.mountCtx = none ∧
       t.conditions = (s.raise .spindleFault).conditions ∧
       t.link.outbound = s.link.outbound ++ [abortedDone [] .spindleFault r] ∧
       t.requests = (s.requests.map fun q : Request =>
         if q.tag = m.tag then { q with abortReason := some .spindleFault, state := .ended } else q) ∧
       t.magnet = s.magnet.unset ∧ t.planner = s.planner.stop ∧ t.jobs = [] ∧ t.pool = s.pool ∧ t.remap = s.remap ∧
       t.cfg = s.cfg ∧ t.sram = s.sram ∧ t.emitted = s.emitted ∧ t.stream = s.stream ∧ t.power = s.power) ∧
     (s.sup.mount = .spinningUp → s.sup.unmountCtx = none → ∃ t, exec .spindleStopped s = .next t ∧
       t.sup = { s.sup with
         mount := .loaded, spindleRun := false, spinUpTimer := false, indexTimer := false, secondStage := .idle
         mountCtx := none, inhibit := s.sup.inhibit.filter (· == .magnetFault) } ∧
       t.conditions = (s.raise .spindleFault).conditions ∧
       t.link.outbound = s.link.outbound ++ [abortedDone [] .spindleFault r] ∧
       t.requests = (s.requests.map fun q : Request =>
         if q.tag = m.tag then { q with abortReason := some .spindleFault, state := .ended } else q) ∧
       t.remap = { entries := [], status := .none, dirty := false, generation := 0, fullMark := false, load := none
                   flush := none, cursor := s.remap.cursor } ∧
       t.seq = { s.seq with openAction := none, refocusTimer := false } ∧ t.magnet = s.magnet.unset ∧
       t.planner = s.planner.stop ∧ t.jobs = [] ∧ t.pool = s.pool ∧ t.cfg = s.cfg ∧ t.sram = s.sram ∧
       t.emitted = s.emitted ∧ t.stream = s.stream ∧ t.power = s.power))

/-- Spindle at speed in SPINNING UP: MAPPING, the 17 MAP READ jobs of the map track in order, the load's 17 results
outstanding, the seek to track 19,200, and the flip toward ERASE; ignored in every other state (R18, R72, R150). -/
def Obligations.SpindleAtSpeedStartsBothLegs : Prop :=
  ∀ s : State, Quiet s →
    (s.sup.mount ≠ .spinningUp → exec .spindleAtSpeed s = .next s) ∧
    (s.sup.mount = .spinningUp → s.jobs = [] → s.magnet.state = .unset →
      ∃ t, exec .spindleAtSpeed s = .next t ∧
        t.sup = { s.sup with mount := .mapping, spindleRun := true, spinUpTimer := false, indexTimer := true } ∧
        t.jobs.map (fun j => (j.owner, j.kind, j.lsn, j.target, j.phase)) =
          (List.range 17).map (fun k => (Owner.map, JobKind.mapRead, none, ⟨19200, k⟩, Phase.needRead)) ∧
        (t.jobs.map Job.id).Nodup ∧ (∀ j ∈ t.jobs, j.attempts = 1 + s.cfg.readRetries ∧ j.slot = none) ∧
        t.remap = { s.remap with status := .loading, load := some (List.replicate 17 none) } ∧
        t.planner = { s.planner with
          head := .seeking, target := some 19200, current := none, seekTimer := true, plan := none
          failures := if s.planner.target = some 19200 then s.planner.failures else 0 } ∧
        t.magnet = { s.magnet with
          state := .toErase, coil := some .erase, senseAgreed := false, flipRunning := true, flipExpired := false
          settleTimer := true } ∧
        t.emitted = s.emitted ++ [.seek 19200] ∧ t.requests = s.requests ∧ t.pool = s.pool ∧ t.cfg = s.cfg ∧
        t.sram = s.sram ∧ t.seq = s.seq ∧ t.power = s.power ∧ t.stream = s.stream ∧ t.link = s.link ∧
        t.conditions = s.conditions)

/-- A protect-tab event is sampled while the state is mounted: TAB enters, with the second stage due (at the next index with
the head REVOLVING, else at once), stays, or leaves; in other states only the input's level changes (R29 to R31). At its entry
a running flush withdraws the claims it holds, each of their sectors FAILED with the reason of the first reason in the set and
its slot free (R154; MAP DAMAGED gives WRITE INHIBITED, assumption 32). -/
def Obligations.ProtectTabIsSampledWhileMounted : Prop :=
  ∀ s : State, Quiet s →
    (s.sup.mount.mounted = false → ∀ b, exec (.protectTab b) s = .next { s with sup := { s.sup with tabInput := b } }) ∧
    (s.sup.mount.mounted = true →
      exec (.protectTab false) s = .next { s with
        sup := { s.sup with tabInput := false, inhibit := s.sup.inhibit.filter (· != .tab) } } ∧
      (.tab ∈ s.sup.inhibit → exec (.protectTab true) s = .next { s with sup := { s.sup with tabInput := true } }) ∧
      (.tab ∉ s.sup.inhibit → ∃ t, exec (.protectTab true) s = .next t ∧
        t.sup = { s.sup with
          tabInput := true, inhibit := s.sup.inhibit ++ [.tab]
          secondStage := if s.planner.head = .revolving then .atIndex else .now } ∧
        t.jobs = s.jobs ∧ t.planner = s.planner ∧ t.seq = s.seq ∧ t.magnet = s.magnet ∧ t.stream = s.stream ∧
        t.conditions = s.conditions ∧ t.link = s.link ∧ t.sram = s.sram ∧ t.cfg = s.cfg ∧ t.power = s.power ∧
        (s.remap.flush = none → t.requests = s.requests ∧ t.pool = s.pool ∧ t.remap = s.remap) ∧
        ClaimsWithdrawn s t (if s.sup.inhibit.head? = some .magnetFault then .magnetFault else .writeInhibited)))

/-- The second stage, where it is due at once: with the set empty it changes nothing else; otherwise every write-type job,
held or not, ends FAILED with the reason that the first reason in the set gives, MAGNET FAULT, or WRITE INHIBITED for any
other (MAP DAMAGED among them: assumption 32); its slot is free, its PENDING entry dropped, its request counts it, a read
held behind it is released, and every other job stays (R30, R47, R51, R59). A flush records the sectors being written FAILED,
or, where it waits for its slots, all 17 (R156; for the slots the stage itself returns, assumption 38). That the jobs of
several owners end oldest first, their slots joining the pool in that order, is the model's choice (assumption 44). -/
def Obligations.SecondStageEndsEveryWriter : Prop :=
  ∀ s : State, s.sup.secondStage = .now → (s.jobs.map Job.id).Nodup →
    (s.sup.inhibit = [] →
      exec .inhibitSecondStage s = .next { s with sup := { s.sup with secondStage := .idle } }) ∧
    (∀ i rest, s.sup.inhibit = i :: rest → ∃ t, exec .inhibitSecondStage s = .next t ∧
      t.sup = { s.sup with secondStage := .idle } ∧
      (∀ j ∈ t.jobs, j.kind.writeType = false) ∧
      t.jobs.map Job.id = (s.jobs.filter fun j => !j.kind.writeType).map Job.id ∧
      (FlushAgrees s → WritersEnd s t (if i = .magnetFault then .magnetFault else .writeInhibited)) ∧
      t.planner.head = s.planner.head ∧ t.magnet = s.magnet ∧ t.sram = s.sram ∧
      t.stream = s.stream ∧ t.power = s.power ∧ t.cfg = s.cfg ∧ t.emitted = s.emitted)

/-- A temperature reading: a value in −160…500 replaces the held one and clears the stale flag; an invalid reading raises
TEMPERATURE INVALID, keeps the value and makes it stale, or leaves no value and no stale flag (R32). -/
def Obligations.TemperatureReadings : Prop :=
  ∀ s : State, Quiet s →
    (∀ v : Int, -160 ≤ v → v ≤ 500 → exec (.temperatureReading (some v)) s =
      .next { s with sup := { s.sup with temperature := some v, stale := false } }) ∧
    (∀ reading : Option Int, (∀ v, reading = some v → v < -160 ∨ 500 < v) →
      exec (.temperatureReading reading) s = .next { s.raise .temperatureInvalid with
        sup := { s.sup with stale := s.sup.temperature.isSome } })

/-- A mount whose two legs have finished completes: READY, the pending coefficient switches applied, the cursor at START, the
context gone, and the MOUNT's DONE with the recorded reason (R20, R127). -/
def Obligations.MountCompletesWhenBothLegsEnd : Prop :=
  ∀ (s : State) (m : MountContext) (r : Request), s.sup.mount = .mapping → s.sup.mountCtx = some m →
    m.mapLeg = true → m.magnetLeg = true → s.request? m.tag = some r → r.state = .opened → r.abortReason = none →
    r.failed = 0 →
    ∃ t, exec .mountComplete s = .next t ∧ t.sup.mount = .ready ∧ t.sup.spindleRun = true ∧ t.sup.mountCtx = none ∧
      (s.sup.tabInput = true → .tab ∈ t.sup.inhibit) ∧
      (s.sup.tabInput = false → t.sup.inhibit = s.sup.inhibit.filter (· != .tab)) ∧
      t.remap = { s.remap with cursor := .start } ∧
      t.power = s.power.mapKinds PowerKind.applySwitch ∧
      t.link.outbound = s.link.outbound ++ [.done r.tag
        (if m.reason = none then .complete else .completeWithErrors) (m.reason.getD .none)
        { doneCount := r.doneCount, failed := 0, blank := r.blank, reassigned := r.reassigned, disturbed := r.disturbed }
        (r.firstFailure.bind Prod.fst)] ∧
      t.jobs = s.jobs ∧ t.pool = s.pool ∧ t.planner = s.planner ∧ t.seq = s.seq ∧ t.magnet = s.magnet ∧
      t.stream = s.stream ∧ t.sram = s.sram ∧ t.cfg = s.cfg ∧ t.conditions = s.conditions ∧ t.emitted = s.emitted

/-- The decision at the drained condition: a clean map spins down; a dirty one is flushed while the inhibit set is empty, and
otherwise spins down with WRITE INHIBITED recorded (R22, R154). -/
def Obligations.DrainedDecidesTheUnmount : Prop :=
  ∀ s : State, s.sup.mount = .unmounting → s.jobs = [] → s.stream.active = none → s.stream.pendingPage = none →
    (∀ r ∈ s.requests, r.state = .ended ∨ ∃ u, s.sup.unmountCtx = some u ∧ u.tag = some r.tag) →
    (s.remap.dirty = false → ∃ t, exec .drained s = .next t ∧ t.sup.mount = .spinningDown ∧
      t.sup.spindleRun = false ∧ t.sup.unmountCtx = s.sup.unmountCtx ∧ t.remap = s.remap ∧
      t.magnet = s.magnet.unset ∧ t.planner = s.planner.stop ∧ t.requests = s.requests ∧ t.link = s.link) ∧
    (s.remap.dirty = true → s.sup.inhibit = [] → exec .drained s = .next { s with
      sup := { s.sup with mount := .flushing, spindleRun := true }
      remap := { s.remap with flush := some { owner := none, phase := .waitingForSlots, sectors := List.replicate 17 .noSlot, images := [],
                                               stale := false } } }) ∧
    (s.remap.dirty = true → s.sup.inhibit ≠ [] → ∃ t, exec .drained s = .next t ∧ t.sup.mount = .spinningDown ∧
      t.sup.spindleRun = false ∧
      t.sup.unmountCtx = s.sup.unmountCtx.map (fun u => { u with result := some .writeInhibited }) ∧
      t.remap = s.remap ∧ t.magnet = s.magnet.unset ∧ t.planner = s.planner.stop ∧ t.requests = s.requests ∧
      t.link = s.link)

/-! ### Requests and jobs (Chapter 3) -/

/-- READ, WRITE and ERASE are refused by the first check of R37 that fails, and a refused command changes nothing but the
answer's place. -/
def Obligations.SpanCommandsAreRefusedInOrder : Prop :=
  ∀ (tag lsn count options : Nat) (s : State) (reason : Refused), FrameArrives s →
    (spanRefusal .read tag lsn count options s = some reason →
      exec (.read tag lsn count options) s = .next (s.reply (.refused tag reason 0x20))) ∧
    (spanRefusal .write tag lsn count options s = some reason →
      exec (.write tag lsn count options) s = .next (s.reply (.refused tag reason 0x21))) ∧
    (spanRefusal .erase tag lsn count options s = some reason →
      exec (.erase tag lsn count options) s = .next (s.reply (.refused tag reason 0x22)))

/-- READ, WRITE and ERASE that pass every check of R37 are taken as R38 states. R38 gives the number of slots; that the
reservation takes those that have stood longest in the pool is the model's choice (assumption 7). The job that holds a new
one is the youngest older job of its LSN with one of the two write-type (R47); the effective PSA of an LSN is the spare of
its ACTIVE entry, else its home (R12). -/
def Obligations.SpanCommandsAreAccepted : Prop :=
  (∀ (older : List Job) (j : Job) (lsn : Nat), j.lsn = some lsn →
    let holds (o : Job) : Prop := o.lsn = some lsn ∧ (o.kind.writeType = true ∨ j.kind.writeType = true)
    (∀ before o after, older = before ++ o :: after → holds o → (∀ k ∈ after, ¬holds k) →
      holder older j = some o.id) ∧
    ((∀ o ∈ older, ¬holds o) → holder older j = none)) ∧
  (∀ (s : State) (lsn : Nat),
    (∀ spare, .active lsn spare ∈ s.remap.entries → (∀ p, .active lsn p ∈ s.remap.entries → p = spare) →
      s.effective lsn = spare) ∧
    ((∀ p, .active lsn p ∉ s.remap.entries) → s.effective lsn = home lsn)) ∧
  ∀ (tag lsn count options : Nat) (s : State), FrameArrives s →
    (spanRefusal .read tag lsn count options s = none → ∃ t, exec (.read tag lsn count options) s = .next t ∧
      AcceptsSpan s t .read .hostRead tag lsn count false (.taken tag 0x20 0) (s.pool.take count)) ∧
    (spanRefusal .write tag lsn count options s = none → ∃ t, exec (.write tag lsn count options) s = .next t ∧
      AcceptsSpan s t .write .hostWrite tag lsn count (decide (options = 1)) (.taken tag 0x21 0) (s.pool.take count)) ∧
    (spanRefusal .erase tag lsn count options s = none → ∃ t, exec (.erase tag lsn count options) s = .next t ∧
      AcceptsSpan s t .erase .hostErase tag lsn count false (.taken tag 0x22 0) [])

/-- DATA is refused by the first check of R49 that fails, and otherwise fills the job's slot, marks its data present and is
answered by no record. -/
def Obligations.DataFillsTheJobsSlot : Prop :=
  ∀ (tag lsn : Nat) (bytes : List Byte) (s : State), FrameArrives s →
    ((∀ r, s.request? tag = some r → ¬(r.kind = .write ∧ r.state = .opened)) →
      exec (.data tag lsn bytes) s = .next (s.reply (.refused tag .dataUnexpected 0x23))) ∧
    (∀ r, s.request? tag = some r → r.kind = .write → r.state = .opened →
      ((∀ first count, r.span = some (first, count) → lsn < first ∨ first + count ≤ lsn) →
        exec (.data tag lsn bytes) s = .next (s.reply (.refused tag .range 0x23))) ∧
      (∀ first count, r.span = some (first, count) → first ≤ lsn → lsn < first + count →
        (s.jobOf tag lsn = none →
          exec (.data tag lsn bytes) s = .next (s.reply (.refused tag .dataUnexpected 0x23))) ∧
        (∀ j, s.jobOf tag lsn = some j → j.dataPresent = true →
          exec (.data tag lsn bytes) s = .next (s.reply (.refused tag .dataDuplicate 0x23))) ∧
        (∀ j slot, s.jobOf tag lsn = some j → j.dataPresent = false → j.slot = some slot →
          exec (.data tag lsn bytes) s = .next { s with
            link := { s.link with held := false }
            sram := s.sram.writeSlot slot bytes
            jobs := s.jobs.map fun o : Job => if o.id = j.id then { o with dataPresent := true } else o })))

/-- CANCEL: NO SUCH TAG, BUSY for MOUNT, UNMOUNT and FLUSH MAP, and otherwise TAKEN, an OPEN request becoming
CANCELLING (R55). A cancel that takes effect while the head is not REVOLVING removes every job the request still has,
and no other; each one's slot returns to the free pool at once, oldest first (R41, R56, R57). -/
def Obligations.CancelMarksAndRemoves : Prop :=
  (∀ (tag : Nat) (s : State), FrameArrives s → (s.requests.map Request.tag).Nodup →
     ((16 ≤ tag ∨ ∀ r ∈ s.requests, r.tag ≠ tag) →
       exec (.cancel tag) s = .next (s.reply (.refused tag .noSuchTag 0x24))) ∧
     (∀ r ∈ s.requests, r.tag = tag → tag < 16 →
       ((r.kind = .mount ∨ r.kind = .unmount ∨ r.kind = .flushMap) →
         exec (.cancel tag) s = .next (s.reply (.refused tag .busy 0x24))) ∧
       ((r.kind = .read ∨ r.kind = .write ∨ r.kind = .erase) → r.state = .opened →
         exec (.cancel tag) s = .next { s.reply (.taken tag 0x24 0) with
           requests := s.requests.map fun q : Request => if q.tag = tag then { q with state := .cancelling } else q }) ∧
       ((r.kind = .read ∨ r.kind = .write ∨ r.kind = .erase) → r.state ≠ .opened →
         exec (.cancel tag) s = .next (s.reply (.taken tag 0x24 0))))) ∧
  (∀ (tag : Nat) (s : State) (r : Request), s.planner.head ≠ .revolving → r ∈ s.requests → r.tag = tag →
     r.state = .cancelling → (∃ j ∈ s.jobs, j.owner = .tag tag) → (s.jobs.map Job.id).Nodup →
     (∀ j ∈ s.jobs, j.owner = .tag tag → j.kind = .hostRead ∨ j.kind = .hostWrite ∨ j.kind = .hostErase) →
     ∃ t, exec (.cancelTakesEffect tag) s = .next t ∧
       t.jobs.map Job.id = (s.jobs.filter fun j => decide (j.owner ≠ .tag tag)).map Job.id ∧
       (∀ j ∈ t.jobs, j.owner ≠ .tag tag) ∧
       t.pool = s.pool ++ (s.jobs.filter fun j => decide (j.owner = .tag tag)).filterMap Job.slot ∧
       t.sram = s.sram ∧ t.sup = s.sup ∧ t.magnet = s.magnet ∧ t.power = s.power ∧ t.stream = s.stream ∧
       t.cfg = s.cfg ∧ t.conditions = s.conditions ∧ t.emitted = s.emitted)

/-- The counters of a request change by the ending of one of its jobs as the table of R59 gives. The outcome and the
reason of a DONE are those of the first row of R60 that applies. -/
def Obligations.CountersAndDoneFollowTheTables : Prop :=
  (∀ (j : Job) (r : Request),
     (∀ blank c content, r.countEnd j (.done blank c content) = { r with
       outstanding := r.outstanding - 1, doneCount := r.doneCount + 1
       blank := r.blank + (if blank = true ∧ j.kind = .hostRead then 1 else 0)
       reassigned := r.reassigned + (if j.kind.writeType = true ∧ 1 ≤ j.sparesTried then 1 else 0) }) ∧
     (∀ reason, r.countEnd j (.failed reason) = { r with
       outstanding := r.outstanding - 1, failed := r.failed + 1
       firstFailure := match r.firstFailure with | some f => some f | none => some (j.lsn, reason) }) ∧
     r.countEnd j .cancelled = { r with
       outstanding := r.outstanding - 1
       disturbed := r.disturbed +
         (if j.kind.writeType = true ∧ (j.phase = .erased ∨ j.phase = .written ∨ j.touched = true) then 1 else 0) }) ∧
  (∀ (r : Request) (recorded : Option Reason),
     let first := match r.firstFailure with | some f => f.2 | none => .none
     (∀ a, r.abortReason = some a → r.verdict recorded = (.aborted, a)) ∧
     (r.abortReason = none → r.state = .cancelling → r.verdict recorded = (.cancelled, first)) ∧
     (r.abortReason = none → r.state ≠ .cancelling → ∀ x, recorded = some x →
       r.verdict recorded = (.completeWithErrors, x)) ∧
     (r.abortReason = none → r.state ≠ .cancelling → recorded = none → 0 < r.failed →
       r.verdict recorded = (.completeWithErrors, first)) ∧
     (r.abortReason = none → r.state ≠ .cancelling → recorded = none → r.failed = 0 →
       r.verdict recorded = (.complete, .none)))

/-! ### The media and the home translation (Chapter 1) -/

/-- The home of an LSN in range is formed by the zone, the offset, the quotient and the remainder of R11; it is of class
USER and its inverse gives the LSN back; every PSA of class USER is the home of an LSN in range (R10, R11). -/
def Obligations.HomeTranslationIsABijection : Prop :=
  (∀ lsn z : Nat, lsn < 464128 → z ≤ 15 →
    let base (y : Nat) := 1184 * (17 * y + y * (y - 1) / 2)
    base z ≤ lsn → (z = 15 ∨ lsn < base (z + 1)) →
      home lsn = ⟨1200 * z + (lsn - base z) / (17 + z), (lsn - base z) % (17 + z)⟩) ∧
  (∀ lsn : Nat, lsn < 464128 → (home lsn).cls = some .user ∧ homeInverse (home lsn) = lsn) ∧
  (∀ p : Psa, p.cls = some .user → homeInverse p < 464128 ∧ home (homeInverse p) = p)

/-! ### The head (Chapter 4) -/

/-- The index event is ignored in SPINNING DOWN. In every other mount state the position is 0, the kill latch clear and no
action open. Cancels, orphans and the second stage that wait for it have taken effect (R30, R56, R178), and what they freed
has gone to the claims (R40, R46); the order of several cancels, which the statement does not rest on, is assumption 36.
On the table so left the decision runs: urgency seeks the unfilled stream job's track (R74); every candidate that can be
served gets its action, an erase or a write in the settled polarity before a read action on a shared sector (R75, R76, R78);
a flip is asked where R76 or R77 asks one, and no other; a plan without actions is an idle revolution, or the elevator moves
the head (R79, R82). In UNPOSITIONED the seek choice is made (R71), and in other head states nothing is decided (R73). A
plan that stands afterwards is one for the current track, its mutating actions all of one polarity, which the magnet is
settled in while the inhibit set is empty, at most one action for each sector and each job, and each the next action of its
job, not held, on its target (R73 to R80, R92, R99, R107). -/
def Obligations.IndexPlansOnePolarity : Prop :=
  ∀ s : State, Quiet s →
    (s.sup.mount = .spinningDown → exec .index s = .next s) ∧
    (s.sup.mount ≠ .spinningDown → s.planner.Lawful → (s.jobs.map Job.id).Nodup →
      ∃ t, exec .index s = .next t ∧
        t.seq = { s.seq with killLatch := false, position := 0, openAction := none } ∧
        IndexClears s t ∧
        (∀ track, (s.planner.head = .settled ∨ s.planner.head = .revolving) → s.planner.current = some track →
          IndexDecides s t track) ∧
        (s.planner.head = .unpositioned → ChoosesSeek s t) ∧
        (s.planner.head ≠ .settled → s.planner.head ≠ .revolving → s.planner.head ≠ .unpositioned →
          t.planner = s.planner ∧ t.magnet = s.magnet ∧ t.emitted = s.emitted) ∧
        ∀ p, t.planner.plan = some p →
          t.planner.head = .revolving ∧ s.planner.current = some p.track ∧ p.zone = trackZone p.track ∧
          (p.actions.map Planned.sector).Nodup ∧ (p.actions.map Planned.job).Nodup ∧
          (∀ a ∈ p.actions, ∀ q, a.action.polarity = some q →
            p.mutating = some q ∧ s.magnet.settled = some q ∧ s.sup.inhibit = []) ∧
          (∀ a ∈ p.actions, ∃ j ∈ t.jobs, j.id = a.job ∧ j.phase ≠ .held ∧ j.nextAction = some a.action ∧
            j.target = ⟨p.track, a.sector⟩))

/-- An index that begins a revolution applies every pending switch and leaves every kind's code keyed to the plan's zone, the
temperature and its generation; any other index leaves the calculator as it was (R127, R134). The sticky flags gather those
of every recomputation, and POWER LIMITS is raised where that sets one (R135). The generation's wrap at its greatest value
is the model's choice (assumption 19). -/
def Obligations.IndexRecomputesTheSetpoints : Prop :=
  ∀ s : State, Quiet s → s.sup.mount ≠ .spinningDown → s.planner.Lawful →
    ∃ t, exec .index s = .next t ∧
      (t.planner.plan = none → t.power = s.power) ∧
      (.powerLimits ∈ t.conditions ↔ .powerLimits ∈ s.conditions ∨ t.power.sticky ≠ s.power.sticky) ∧
      (∀ p, t.planner.plan = some p →
        let temp : TempInput := { value := s.sup.temperature, stale := s.sup.stale }
        let key (k : SetKind) : CacheKey := { zone := p.zone, generation := (t.power.get k).generation, temp := temp }
        let flagged (flag : Flags → Bool) : Bool := [SetKind.read, .erase, .write].any fun k =>
          decide ((s.power.get k).key ≠ some (key k)) && flag (compute (t.power.get k).active p.zone temp).flags
        t.power.sticky = {
          ovf := s.power.sticky.ovf || flagged Flags.ovf, limLow := s.power.sticky.limLow || flagged Flags.limLow
          limHigh := s.power.sticky.limHigh || flagged Flags.limHigh
          stale := s.power.sticky.stale || flagged Flags.stale } ∧
        ∀ k : SetKind,
          let old := s.power.get k
          let new := t.power.get k
          new.switchPending = false ∧ new.staged = old.staged ∧
          new.active = (if old.switchPending then old.staged else old.active) ∧
          new.generation = (if old.switchPending then old.generation + 1 else old.generation) ∧
          new.key = some (key k) ∧
          new.code = (if old.key ≠ some (key k) then (compute new.active p.zone temp).code
            else if old.switchPending then max new.active.pmin (min new.active.pmax old.code) else old.code))

/-- The elevator takes the nearest track ahead in the sweep direction, turns only where none lies ahead, and takes none where
none lies either way (R82). -/
def Obligations.ElevatorTakesTheNearestAhead : Prop :=
  ∀ (t x : Nat) (tracks : List Nat),
    (x ∈ tracks → t < x → (∀ y ∈ tracks, t < y → x ≤ y) → elevator .outward t tracks = (some x, .outward)) ∧
    (x ∈ tracks → x < t → (∀ y ∈ tracks, y < t → y ≤ x) → elevator .inward t tracks = (some x, .inward)) ∧
    (x ∈ tracks → x < t → (∀ y ∈ tracks, y < t → y ≤ x) → (∀ y ∈ tracks, y ≤ t) →
      elevator .outward t tracks = (some x, .inward)) ∧
    (x ∈ tracks → t < x → (∀ y ∈ tracks, t < y → x ≤ y) → (∀ y ∈ tracks, t ≤ y) →
      elevator .inward t tracks = (some x, .outward)) ∧
    ((∀ y ∈ tracks, y = t) → elevator .outward t tracks = (none, .inward) ∧
      elevator .inward t tracks = (none, .outward))

/-- Seek done: the head settles on its target; a recalibration is followed by the seek to its target, the count kept, with
the flip check of every seek (R84), or settles on track 0; in every other head state seek done and seek fault are ignored
(R67 to R69). -/
def Obligations.SeekDoneByHeadState : Prop :=
  ∀ s : State, Quiet s →
    (s.planner.head = .seeking → exec .seekDone s = .next { s with planner := { s.planner with
      seekTimer := false, current := s.planner.target, target := none, failures := 0, head := .settled } }) ∧
    (s.planner.head = .recalibrating → s.planner.target = none → exec .seekDone s = .next { s with
      planner := { s.planner with recalTimer := false, current := some 0, failures := 0, head := .settled } }) ∧
    (∀ track, s.planner.head = .recalibrating → s.planner.target = some track → ∃ t, exec .seekDone s = .next t ∧
      t.planner = { s.planner with
        recalTimer := false, seekTimer := true, current := none, head := .seeking, plan := none } ∧
      t.emitted = s.emitted ++ [.seek track] ∧ FlipsWithSeek s t track ∧ t.jobs = s.jobs ∧ t.seq = s.seq ∧ t.sup = s.sup ∧
      t.remap = s.remap ∧ t.requests = s.requests) ∧
    (s.planner.head ≠ .seeking → s.planner.head ≠ .recalibrating →
      exec .seekDone s = .next s ∧ exec .seekFault s = .next s)

/-- A failure to reach the target track, by a seek fault or a timer's expiry, is counted and followed by a recalibration
while the count stays below 3; at the third the planner gives up on the track, its reads ending FAILED into the ring and the
load (R68 to R70, R150, R168). In a giving up it is the model's choice that claims are met between the jobs it deals with
(assumption 2), that a job which a claim makes, or a HELD job which is released onto the track, meanwhile is not dealt with
(assumption 39), and that the second stage of a flush's failure comes after the last of them and before the seek choice
(R30, R156, R71; assumption 40). A recalibration without a target that fails counts nothing: no job, request or entry
changes, and the head is UNPOSITIONED with the count it had, but for the seek that its choice may issue, which counts from 0
(R67, R69, R71). The expiry of a timer that does not run changes nothing (the model's choice, assumption 3). -/
def Obligations.SeekFailuresLeadToRecalibration : Prop :=
  ∀ s : State, Quiet s →
    let recalibrates := Host.Outcome.next (φ := Fault) (ρ := Refusal) { s with
      emitted := s.emitted ++ [.recalibrate]
      planner := { s.planner with
        failures := s.planner.failures + 1, seekTimer := false, recalTimer := true, head := .recalibrating
        current := none, plan := none } }
    let countsNothing (e : Instr) := ∃ t, exec e s = .next t ∧
      ChoosesSeek { s with planner := { s.planner with recalTimer := false } } t ∧
      t.planner.failures = (if t.planner.head = .seeking then 0 else s.planner.failures) ∧
      t.jobs = s.jobs ∧ t.requests = s.requests ∧ t.remap = s.remap
    (s.planner.head = .seeking → s.planner.failures < 2 →
      exec .seekFault s = recalibrates ∧ (s.planner.seekTimer = true → exec .seekTimerExpiry s = recalibrates)) ∧
    (s.planner.head = .recalibrating → s.planner.target.isSome = true → s.planner.failures < 2 →
      exec .seekFault s = recalibrates ∧
      (s.planner.recalTimer = true → exec .recalibrationTimerExpiry s = recalibrates)) ∧
    (s.planner.head = .recalibrating → s.planner.target = none →
      countsNothing .seekFault ∧ (s.planner.recalTimer = true → countsNothing .recalibrationTimerExpiry)) ∧
    (∀ track, s.planner.target = some track → s.planner.failures = 2 → (s.jobs.map Job.id).Nodup →
      (∀ j ∈ s.jobs, j.phase = .held ↔ j.heldBehind.isSome = true) →
      (s.planner.head = .seeking →
        (∃ t, exec .seekFault s = .next t ∧ GivesUp s t track) ∧
        (s.planner.seekTimer = true → ∃ t, exec .seekTimerExpiry s = .next t ∧ GivesUp s t track)) ∧
      (s.planner.head = .recalibrating →
        (∃ t, exec .seekFault s = .next t ∧ GivesUp s t track) ∧
        (s.planner.recalTimer = true → ∃ t, exec .recalibrationTimerExpiry s = .next t ∧ GivesUp s t track))) ∧
    (s.planner.seekTimer = false → exec .seekTimerExpiry s = .next s) ∧
    (s.planner.recalTimer = false → exec .recalibrationTimerExpiry s = .next s)

/-- An off-track event on a track sets the kill latch, cuts off the open action, retires the plan and seeks the track
again, with SHOCK where a mutating action was still due; with no track to be off it is ignored (R86, R99, R106, R108).
Losing focus sets the kill latch, cuts off the open action, retires the plan, abandons the seek and starts the refocus
timer; regaining it seeks the target track, else the current one, else leaves the head UNPOSITIONED with its seek choice
(R71); in the other head states both are ignored (R87, R106, R109). Each seek makes the flip check (R84). -/
def Obligations.DisturbancesOfTheHead : Prop :=
  (∀ s : State, Quiet s →
     (∀ track, (s.planner.head = .settled ∨ s.planner.head = .revolving) → s.planner.current = some track →
       ∃ t, exec .offTrack s = .next t ∧ t.seq = { s.seq with killLatch := true, openAction := none } ∧
         t.jobs = cutOffJobs s ∧
         t.planner.head = .seeking ∧ t.planner.target = some track ∧ t.planner.current = none ∧
         t.planner.plan = none ∧ t.planner.seekTimer = true ∧ t.emitted = s.emitted ++ [.seek track] ∧
         FlipsWithSeek s t track ∧
         (((∃ o, s.seq.openAction = some o ∧ o.action.polarity ≠ none) ∨
             (∃ p a, s.planner.plan = some p ∧ a ∈ p.actions ∧ a.action.polarity ≠ none ∧ s.seq.position ≤ a.sector)) →
           t.conditions = (s.raise .shock).conditions) ∧
         ((∀ o, s.seq.openAction = some o → o.action.polarity = none) →
           (∀ p a, s.planner.plan = some p → a ∈ p.actions → a.action.polarity ≠ none → a.sector < s.seq.position) →
           t.conditions = s.conditions) ∧
         t.laser = .off ∧ t.sup = s.sup ∧ t.requests = s.requests ∧ t.remap = s.remap ∧ t.stream = s.stream) ∧
     (s.planner.head ≠ .settled → s.planner.head ≠ .revolving → exec .offTrack s = .next s)) ∧
  (∀ s : State, Quiet s →
     (s.planner.head ≠ .stopped → s.planner.head ≠ .refocusing → exec .focusLost s = .next { s with
       seq := { s.seq with killLatch := true, openAction := none, refocusTimer := true }
       planner := { s.planner with head := .refocusing, seekTimer := false, recalTimer := false, plan := none }
       jobs := cutOffJobs s }) ∧
     ((s.planner.head = .stopped ∨ s.planner.head = .refocusing) → exec .focusLost s = .next s) ∧
     (s.planner.head ≠ .refocusing → exec .focusRegained s = .next s) ∧
     (∀ track, s.planner.head = .refocusing →
       (s.planner.target = some track ∨ (s.planner.target = none ∧ s.planner.current = some track)) →
       ∃ t, exec .focusRegained s = .next t ∧ t.seq = { s.seq with refocusTimer := false } ∧
         t.planner.head = .seeking ∧ t.planner.target = some track ∧ t.planner.current = none ∧
         t.emitted = s.emitted ++ [.seek track] ∧ FlipsWithSeek s t track ∧ t.jobs = s.jobs ∧
         (s.planner.target = some track → t.planner.failures = s.planner.failures)) ∧
     (s.planner.head = .refocusing → s.planner.target = none → s.planner.current = none →
       ∃ t, exec .focusRegained s = .next t ∧ t.seq = { s.seq with refocusTimer := false } ∧
         (t.planner.head = .unpositioned ∨ t.planner.head = .seeking) ∧ t.jobs = s.jobs ∧
         ChoosesSeek { s with seq := { s.seq with refocusTimer := false } } t))

/-! ### Sector actions (Chapter 5) -/

/-- A sector mark while the head is REVOLVING first cuts off an action still open (R93, R99); beyond the track's last sector
it is ignored but for that (R92; the cut-off there is the model's choice, assumption 15). An unplanned sector only counts. A
planned erase or write at a MATCH mark is opened and gated where the magnet is settled in its polarity, the latch clear and
the inhibit set empty, a write sending the 1,024 bytes of its job's slot, and skipped otherwise; a read action is opened
ungated (R96, R97). At an ID ERROR no action is opened: the job counts it, and at its fourth, or a read with its last
attempt, it has failed on ID (R94). An OTHER TRACK header is an off-track event, its seek with the flip check (R84), with
SHOCK where a mutating action was due (R93, R106, R108; that its own sector's is still due, assumption 16). In other head
states a mark changes nothing. The laser is OFF while the spindle is not up or the latch is set, at ERASE or WRITE while
such a gated action is open, and at READ otherwise, and the driver is given the code in force of that kind (R90, R91, R133).
-/
def Obligations.SectorMarkGatesTheLaser : Prop :=
  (∀ s : State,
    let up := s.sup.mount = .mapping ∨ s.sup.mount = .ready ∨ s.sup.mount = .unmounting ∨ s.sup.mount = .flushing
    ((¬up ∨ s.seq.killLatch = true) → s.laser = .off ∧ s.laserCode = none) ∧
    (∀ o, up → s.seq.killLatch = false → s.seq.openAction = some o → o.gated = true →
      (o.action = .erase → s.laser = .erase ∧ s.laserCode = some s.power.erase.code) ∧
      (o.action = .write → s.laser = .write ∧ s.laserCode = some s.power.write.code)) ∧
    (up → s.seq.killLatch = false →
      (∀ o, s.seq.openAction = some o → o.gated = false ∨ (o.action ≠ .erase ∧ o.action ≠ .write)) →
      s.laser = .read ∧ s.laserCode = some s.power.read.code)) ∧
  ∀ (header : Option Psa) (s : State), Quiet s → (s.jobs.map Job.id).Nodup →
    (s.planner.head ≠ .revolving → exec (.sectorMark header) s = .next s) ∧
    (∀ p, s.planner.head = .revolving → s.planner.plan = some p → p.track ≤ 19200 →
      let k := s.seq.position
      let cut : State := { s with seq := { s.seq with openAction := none }, jobs := cutOffJobs s }
      let counted : State := { cut with seq := { cut.seq with position := k + 1 } }
      (trackSectors p.track ≤ k → exec (.sectorMark header) s = .next cut) ∧
      (k < trackSectors p.track → (∀ a ∈ p.actions, a.sector ≠ k) → exec (.sectorMark header) s = .next counted) ∧
      (∀ a, k < trackSectors p.track → p.actions.find? (fun b => b.sector == k) = some a →
        (header = some ⟨p.track, k⟩ →
          (∀ q, a.action.polarity = some q →
            s.magnet.settled = some q → s.seq.killLatch = false → s.sup.inhibit = [] →
            exec (.sectorMark header) s = .next { counted with
              seq := { counted.seq with
                openAction := some { sector := k, action := a.action, job := some a.job, gated := true } }
              jobs := cut.jobs.map fun j : Job => if j.id = a.job then { j with touched := true } else j
              emitted := s.emitted ++ cut.writtenData a }) ∧
          (∀ q, a.action.polarity = some q →
            (s.magnet.settled ≠ some q ∨ s.seq.killLatch = true ∨ s.sup.inhibit ≠ []) →
            exec (.sectorMark header) s = .next counted) ∧
          (a.action.polarity = none →
            exec (.sectorMark header) s = .next { counted with
              seq := { counted.seq with
                openAction := some { sector := k, action := a.action, job := some a.job, gated := false } } })) ∧
        (∀ q, header = some q → q.valid = true → q.track ≠ p.track →
          ∃ t, exec (.sectorMark header) s = .next t ∧
            t.seq = { s.seq with killLatch := true, openAction := none, position := k + 1 } ∧ t.jobs = cut.jobs ∧
            t.planner.head = .seeking ∧ t.planner.target = some p.track ∧ t.planner.current = none ∧
            t.planner.plan = none ∧ t.planner.seekTimer = true ∧ t.emitted = s.emitted ++ [.seek p.track] ∧
            FlipsWithSeek s t p.track ∧
            t.conditions = (if ∃ b ∈ p.actions, b.action.polarity ≠ none ∧ k ≤ b.sector then s.raise .shock
              else s).conditions ∧
            t.laser = .off ∧ t.sup = s.sup ∧ t.requests = s.requests ∧ t.remap = s.remap ∧ t.stream = s.stream) ∧
        (∀ j, (∀ q, header = some q → q.valid = true → q.track = p.track ∧ q.sector ≠ k) → cut.job? a.job = some j →
          let counts (f : Job → Job) : State :=
            { counted with jobs := cut.jobs.map fun o : Job => if o.id = j.id then f j else o }
          (j.kind.writeType = true → j.idFailures < 3 → exec (.sectorMark header) s =
            .next (counts fun j => { j with idFailures := j.idFailures + 1 })) ∧
          (j.kind.writeType = true → j.kind ≠ .mapWrite → 3 ≤ j.idFailures → exec (.sectorMark header) s =
            .next { ({ cut with jobs := cut.jobs.map fun o : Job =>
                if o.id = j.id then { j with idFailures := j.idFailures + 1 } else o }).reassign j.id with
              seq := counted.seq }) ∧
          (∀ f, j.kind = .mapWrite → 3 ≤ j.idFailures → s.remap.flush = some f → f.sectors.length = 17 →
            f.sectors[j.target.sector]? = some .writing → ∃ t, exec (.sectorMark header) s = .next t ∧
              MapWriteEnds cut t f j (.failed .idNotFound) ∧ t.seq = counted.seq) ∧
          (j.kind.writeType = false → 1 < j.attempts → j.idFailures < 3 → exec (.sectorMark header) s =
            .next (counts fun j => { j with attempts := j.attempts - 1, idFailures := j.idFailures + 1 })) ∧
          (j.kind.writeType = false → (j.attempts ≤ 1 ∨ 3 ≤ j.idFailures) →
            ∃ t, exec (.sectorMark header) s = .next t ∧ ReadFails cut t j .idNotFound ∧ t.seq = counted.seq))))

/-- The sector end of an open action whose job is in the table: an erase leaves it ERASED and a write WRITTEN, both touched
(R98). A verify or blank check that succeeds ends the job DONE (R102, R103). One that fails, unequal bytes among the causes,
sends it back to NEED ERASE with one attempt fewer, and at its last attempt to reassignment, a MAP WRITE to its end FAILED
(R102, R103); that equal map images stand for equal bytes is assumption 9, and that a MAP WRITE, which has no LSN, owns no
remap entry is part of the invariant of StepKeepsTableLaws. An UNCORRECTABLE read costs an attempt, and at the last one the
job ends FAILED, an orphan with its slot free and nothing else (R101, R168). A sector end with no action open, or with the
job gone, changes no job. -/
def Obligations.SectorEndAppliesTheOutcome : Prop :=
  ∀ (o : ReadOutcome) (s : State), Quiet s → (s.jobs.map Job.id).Nodup →
    (s.seq.openAction = none → exec (.sectorEnd o) s = .next s) ∧
    (∀ act, s.planner.head = .revolving → s.seq.openAction = some act → act.job = none →
      exec (.sectorEnd o) s = .next { s with seq := { s.seq with openAction := none } }) ∧
    (∀ act id j, s.planner.head = .revolving → s.seq.openAction = some act → act.job = some id → s.job? id = some j →
      let closed : State := { s with seq := { s.seq with openAction := none } }
      let with_ (f : Job → Job) : State := { closed with jobs := s.jobs.map fun k => if k.id = id then f k else k }
      let check := act.action = .verify ∨ act.action = .blankCheck
      (act.action = .erase → exec (.sectorEnd o) s = .next (with_ fun k => { k with phase := .erased, touched := true })) ∧
      (act.action = .write → exec (.sectorEnd o) s = .next (with_ fun k => { k with phase := .written, touched := true })) ∧
      (check → ¬s.CheckSucceeds act.action j o → 1 < j.attempts → exec (.sectorEnd o) s =
        .next (with_ fun _ => { j with attempts := j.attempts - 1, phase := .needErase })) ∧
      (check → ¬s.CheckSucceeds act.action j o → j.attempts ≤ 1 → j.kind ≠ .mapWrite → exec (.sectorEnd o) s =
        .next ((with_ fun _ => { j with attempts := 0 }).reassign id)) ∧
      (∀ f, check → j.kind = .mapWrite → s.remap.flush = some f → f.sectors.length = 17 →
        f.sectors[j.target.sector]? = some .writing →
        (¬s.CheckSucceeds act.action j o → j.attempts ≤ 1 → ∃ t, exec (.sectorEnd o) s = .next t ∧
          MapWriteEnds s t f j (.failed .uncorrectable) ∧ t.seq = closed.seq) ∧
        (s.CheckSucceeds act.action j o → s.sup.inhibit = [] → (∀ e ∈ s.remap.entries, e.ownedBy id = false) →
          ∃ t, exec (.sectorEnd o) s = .next t ∧ MapWriteEnds s t f j .done ∧ t.seq = closed.seq)) ∧
      (check → s.CheckSucceeds act.action j o → (j.kind = .hostWrite ∨ j.kind = .hostErase ∨ j.kind = .refresh) →
        (j.kind = .hostErase ∨ ∀ h ∈ s.jobs, h.heldBehind = some id → h.kind.writeType = true) →
        ∃ t, exec (.sectorEnd o) s = .next t ∧ WriterDone s t j ∧ t.seq = closed.seq) ∧
      (act.action = .read → o = .uncorrectable → 1 < j.attempts → exec (.sectorEnd o) s =
        .next (with_ fun _ => { j with attempts := j.attempts - 1 })) ∧
      (act.action = .read → o = .uncorrectable → j.attempts ≤ 1 → j.kind.writeType = false →
        ∃ t, exec (.sectorEnd o) s = .next t ∧ ReadFails s t j .uncorrectable ∧ t.seq = closed.seq))

/-- A HOST READ that reads GOOD, no more corrected than Rt, fills its slot, leaves the table, counts as done, and its DATA
IN is composed behind every record already waiting; its slot stays reserved (R51, R52, R59, R100). One that reads BLANK does
so with zero bytes and counts as blank. A HOST READ or STREAM READ corrected beyond Rt asks for a refresh, created or
dropped (R53, R105; that an orphan asks too, assumption 46). A STREAM READ hands its slot to the ring filled, an orphan its
slot free (R168; for the moment of the ring's release, R166). A MAP READ reports to the load (R150). A read held behind a
HOST WRITE or REFRESH that ends DONE is filled from its slot and ends DONE with it (R48). That a refresh takes the slot
longest in the pool, and that an orphan's slot joins the ring's free ones behind the others, is the model's choice
(assumption 7). -/
def Obligations.HostReadDeliversItsData : Prop :=
  (∀ (s : State) (act : OpenAction) (id : JobId) (j : Job) (tag lsn c : Nat) (slot : Slot) (bytes : List Byte) (r : Request),
    Quiet s → (s.jobs.map Job.id).Nodup → s.planner.head = .revolving → s.seq.openAction = some act →
    act.action = .read → act.job = some id → s.job? id = some j → j.kind = .hostRead → j.owner = .tag tag → j.lsn = some lsn → j.slot = some slot →
    c ≤ s.cfg.rt → bytes.length = 1024 → s.request? tag = some r → r.kind = .read →
    ∃ t, exec (.sectorEnd (.good c (.user bytes))) s = .next t ∧
      t.link.outbound = s.link.outbound ++ [.dataIn tag lsn false c slot bytes] ∧
      t.jobs.map Job.id = (s.jobs.filter fun k => k.id != id).map Job.id ∧
      t.sram = s.sram.writeSlot slot bytes ∧ t.pool = s.pool ∧
      t.request? tag = some { r with outstanding := r.outstanding - 1, doneCount := r.doneCount + 1 } ∧
      t.seq = { s.seq with openAction := none } ∧ t.sup = s.sup ∧ t.remap = s.remap ∧ t.magnet = s.magnet ∧
      t.power = s.power ∧ t.stream = s.stream ∧ t.conditions = s.conditions ∧ t.cfg = s.cfg ∧ t.emitted = s.emitted) ∧
  (∀ (s : State) (act : OpenAction) (id : JobId) (j : Job),
    Quiet s → (s.jobs.map Job.id).Nodup → s.planner.head = .revolving → s.seq.openAction = some act →
    act.action = .read → act.job = some id → s.job? id = some j →
    (∀ tag lsn slot r, j.kind = .hostRead → j.owner = .tag tag → j.lsn = some lsn → j.slot = some slot →
      s.request? tag = some r → r.kind = .read →
      ∃ t, exec (.sectorEnd .blank) s = .next t ∧ LeavesTable s t j ∧
        t.link.outbound = s.link.outbound ++ [.dataIn tag lsn true 0 slot (List.replicate 1024 0)] ∧
        t.sram = s.sram.writeSlot slot (List.replicate 1024 0) ∧ t.pool = s.pool ∧
        t.request? tag = some (r.doneJob true false) ∧ t.remap = s.remap ∧ t.stream = s.stream ∧
        t.conditions = s.conditions ∧ t.emitted = s.emitted) ∧
    (∀ slot c field, j.slot = some slot → (fieldBytes field).length = 1024 → s.cfg.rt < c →
      (j.kind = .hostRead ∨ (j.kind = .streamRead ∧ j.owner = .stream ∧
        ∃ place sector, j.page = some (place, sector) ∧ ((s.stream.pageAt place).isSome = true ∨
          (place = .orphan ∧ (s.stream.active ≠ none ∨ s.stream.pendingPage ≠ none))))) →
      ∃ t, exec (.sectorEnd (.good c field)) s = .next t ∧ AsksRefresh s t j (fieldBytes field) ∧
        t.sram.readSlot slot = fieldBytes field ∧ t.remap = s.remap) ∧
    (∀ place sector slot o bytes, j.kind = .streamRead → j.owner = .stream → j.page = some (place, sector) →
      j.slot = some slot →
      ((∃ c field, o = .good c field ∧ c ≤ s.cfg.rt ∧ bytes = fieldBytes field) ∨ (o = .blank ∧ bytes = List.replicate 1024 0)) →
      ∃ t, exec (.sectorEnd o) s = .next t ∧ LeavesTable s t j ∧ t.sram = s.sram.writeSlot slot bytes ∧
        ((s.stream.pageAt place).isSome = true → t.pool = s.pool ∧ t.stream = { s.stream with
          filled := s.stream.filled ++ [{ place := place, sector := sector, slot := slot }]
          startTest := s.stream.startTest || s.stream.waiting }) ∧
        (place = .orphan →
          (s.stream.active ≠ none ∨ s.stream.pendingPage ≠ none ∨ ∃ k ∈ t.jobs, k.isStream = true) →
          t.pool = s.pool ∧ t.stream = { s.stream with ringFree := s.stream.ringFree ++ [slot] }) ∧
        t.requests = s.requests ∧ t.link = s.link ∧ t.remap = s.remap ∧ t.conditions = s.conditions) ∧
    (∀ o result, j.kind = .mapRead → j.owner = .map → j.slot = none →
      ((∃ c field, o = .good c field ∧ result = .good (fieldMapSector field)) ∨ (o = .blank ∧ result = .blank)) →
      ∃ t, exec (.sectorEnd o) s = .next t ∧ LeavesTable s t j ∧
        t.remap = { s.remap with
          load := s.remap.load.map fun rs : List (Option LoadResult) => rs.set j.target.sector (some result) } ∧
        t.requests = s.requests ∧ t.link = s.link ∧ t.pool = s.pool ∧ t.sram = s.sram ∧ t.stream = s.stream ∧
        t.conditions = s.conditions)) ∧
  (∀ (s : State) (act : OpenAction) (id : JobId) (j h : Job) (o : ReadOutcome) (src dst : Slot) (tag lsn : Nat) (r : Request),
    Quiet s → (s.jobs.map Job.id).Nodup → s.planner.head = .revolving → s.seq.openAction = some act →
    act.action = .verify → act.job = some id → s.job? id = some j → (j.kind = .hostWrite ∨ j.kind = .refresh) → s.CheckSucceeds .verify j o → j.slot = some src →
    (s.jobs.filter fun k => decide (k.heldBehind = some id)) = [h] → h.kind = .hostRead →
    h.id ≠ id → h.slot = some dst → h.owner = .tag tag → j.owner ≠ .tag tag → h.lsn = some lsn →
    s.request? tag = some r → r.kind = .read →
    ∃ t, exec (.sectorEnd o) s = .next t ∧
      t.jobs.map Job.id = (s.jobs.filter fun k => decide (k.id ≠ id) && decide (k.id ≠ h.id)).map Job.id ∧
      t.sram = s.sram.writeSlot dst (s.sram.readSlot src) ∧ t.pool = s.pool ++ [src] ∧
      t.request? tag = some (r.doneJob false false) ∧ t.remap = s.remap.activateOwned id ∧
      ∃ rest, t.link.outbound = s.link.outbound ++ .dataIn tag lsn false 0 dst (s.sram.readSlot src) :: rest ∧
        ∀ x ∈ rest, x.isDataIn tag = false)

/-! ### The bias magnet (Chapter 6) -/

/-- A magnet-sense report becomes the last sense in every state; during a flip it sets or clears "sense agreed", and
settles the flip where the flip timer has expired; the flip timer, where it runs, expires and settles a flip whose sense
agreed; either settle of a mount's flip ends its magnet leg, and toward ERASE takes MAGNET FAULT out of the inhibit set
(R20, R113, R115); the settle timeout, where it runs during a flip, makes the magnet FAULT, raises MAGNET FAULT and
enters it in the inhibit set (R115, R116), which, where it was absent and the state is mounted, makes the second stage due (at
the next index with the head REVOLVING, else at once) and a running flush withdraw its claims (R30, R154; the reason that MAP
DAMAGED gives, assumption 32). The expiry of a timer that does not run changes nothing (the model's choice,
assumption 3). -/
def Obligations.MagnetSettlesOrFaults : Prop :=
  (∀ (v : Sense) (s : State), Quiet s →
     (s.magnet.state ≠ .toErase → s.magnet.state ≠ .toWrite →
       exec (.magnetSense v) s = .next { s with magnet := { s.magnet with lastSense := v } }) ∧
     (((s.magnet.state = .toErase ∧ v ≠ .erase) ∨ (s.magnet.state = .toWrite ∧ v ≠ .write)) →
       exec (.magnetSense v) s = .next { s with magnet := { s.magnet with lastSense := v, senseAgreed := false } }) ∧
     (((s.magnet.state = .toErase ∧ v = .erase) ∨ (s.magnet.state = .toWrite ∧ v = .write)) →
       s.magnet.flipExpired = false →
       exec (.magnetSense v) s = .next { s with magnet := { s.magnet with lastSense := v, senseAgreed := true } }) ∧
     (((s.magnet.state = .toErase ∧ v = .erase) ∨ (s.magnet.state = .toWrite ∧ v = .write)) →
       s.magnet.flipExpired = true →
       exec (.magnetSense v) s = .next { s with
         magnet := { s.magnet with
           lastSense := v, senseAgreed := true, settleTimer := false
           state := if v = .erase then .erase else .write }
         sup := if s.sup.mount = .mapping ∧ s.sup.mountCtx ≠ none then
             { s.sup with
               mountCtx := s.sup.mountCtx.map fun m : MountContext => { m with magnetLeg := true }
               inhibit := if v = .erase then s.sup.inhibit.filter (· != .magnetFault) else s.sup.inhibit }
           else s.sup })) ∧
  (∀ s : State, Quiet s →
     (s.magnet.flipRunning = false → exec .flipTimerExpiry s = .next s) ∧
     (s.magnet.flipRunning = true → (s.magnet.senseAgreed = false ∨ s.magnet.movingToward = none) →
       exec .flipTimerExpiry s = .next { s with magnet := { s.magnet with flipRunning := false, flipExpired := true } }) ∧
     (∀ p, s.magnet.flipRunning = true → s.magnet.senseAgreed = true → s.magnet.movingToward = some p →
       ∃ t, exec .flipTimerExpiry s = .next t ∧
         t.magnet = { s.magnet with
           flipRunning := false, flipExpired := true, settleTimer := false
           state := if p = .erase then .erase else .write } ∧
         t.jobs = s.jobs ∧ t.planner = s.planner ∧ t.conditions = s.conditions ∧
         t.sup = (if s.sup.mount = .mapping ∧ s.sup.mountCtx ≠ none then
             { s.sup with
               mountCtx := s.sup.mountCtx.map fun m : MountContext => { m with magnetLeg := true }
               inhibit := if p = .erase then s.sup.inhibit.filter (· != .magnetFault) else s.sup.inhibit }
           else s.sup)) ∧
     (s.magnet.settleTimer = true → s.magnet.movingToward ≠ none →
       ∃ t, exec .settleTimeoutExpiry s = .next t ∧
         t.magnet = { s.magnet with flipRunning := false, settleTimer := false, coil := none, state := .fault } ∧
         t.conditions = (s.raise .magnetFault).conditions ∧
         t.sup.inhibit = (if .magnetFault ∈ s.sup.inhibit then s.sup.inhibit else s.sup.inhibit ++ [.magnetFault]) ∧
         t.sup.mount = s.sup.mount ∧ t.jobs = s.jobs ∧ t.planner = s.planner ∧ t.seq = s.seq ∧ t.sram = s.sram ∧
         t.stream = s.stream ∧
         (.magnetFault ∉ s.sup.inhibit → s.sup.mount.mounted = true →
           t.sup.secondStage = (if s.planner.head = .revolving then .atIndex else .now) ∧
           ClaimsWithdrawn s t (if s.sup.inhibit = [] then .magnetFault else .writeInhibited)) ∧
         ((.magnetFault ∈ s.sup.inhibit ∨ s.sup.mount.mounted = false) →
           t.sup.secondStage = s.sup.secondStage ∧ t.remap = s.remap ∧ t.requests = s.requests ∧ t.pool = s.pool) ∧
         (∀ m, s.sup.mount = .mapping → s.sup.mountCtx = some m → t.sup.mountCtx = some { m with
           magnetLeg := true, reason := match m.reason with | some x => some x | none => some .magnetFault })) ∧
     ((s.magnet.settleTimer = false ∨ s.magnet.movingToward = none) → exec .settleTimeoutExpiry s = .next s))

/-! ### Laser power (Chapter 7) -/

/-- SET POWER: the checks of R125 in order; taken, the clamped values replace the kind's staged copy, its switch is pending,
and the clamp set names the clamped fields; nothing else changes (R125, R126). -/
def Obligations.SetPowerStagesTheClampedSet : Prop :=
  ∀ (kind b : Nat) (g k thetaRef : Int) (d pmin pmax round : Nat) (s : State), FrameArrives s →
    let cmd : Instr := .setPower kind b g k thetaRef d pmin pmax round
    ((s.sup.mount = .spinningUp ∨ s.sup.mount = .mapping) →
      exec cmd s = .next (s.reply (.refused 0xFF .busy 0x40))) ∧
    (s.sup.mount ≠ .spinningUp → s.sup.mount ≠ .mapping → (2 < kind ∨ 1 < round ∨ pmax < pmin) →
      exec cmd s = .next (s.reply (.refused 0xFF .badParameter 0x40))) ∧
    (s.sup.mount ≠ .spinningUp → s.sup.mount ≠ .mapping → kind ≤ 2 → round ≤ 1 → pmin ≤ pmax →
      ∃ clamps t, exec cmd s = .next t ∧
        t = { s.reply (.taken 0xFF 0x40 clamps) with power := t.power } ∧
        clamps.testBit 0 = decide (1023 < b) ∧ clamps.testBit 1 = decide (thetaRef < -160 ∨ 500 < thetaRef) ∧
        clamps.testBit 2 = decide (15 < d) ∧ clamps.testBit 3 = decide (1023 < pmin) ∧
        clamps.testBit 4 = decide (1023 < pmax) ∧ clamps < 32 ∧
        let set : Coefficients :=
          { b := min 1023 b, g := g, k := k, thetaRef := max (-160) (min 500 thetaRef), d := min 15 d
            pmin := min 1023 pmin, pmax := min 1023 pmax, round := if round = 0 then .nearest else .truncate }
        t.power = { s.power with
          read := if kind = 0 then { s.power.read with staged := set, switchPending := true } else s.power.read
          erase := if kind = 1 then { s.power.erase with staged := set, switchPending := true } else s.power.erase
          write := if kind = 2 then { s.power.write with staged := set, switchPending := true } else s.power.write })

/-- CALC: BAD PARAMETER for a zone, an explicit temperature, a kind or a copy outside its range; otherwise the computation of
section 7.3 on the named copy, zone and temperature, reported, and no state changes (R137, R138). -/
def Obligations.CalcReportsTheComputation : Prop :=
  ∀ (zone tempMode : Nat) (temp : Int) (kind copy : Nat) (s : State), FrameArrives s →
    ((15 < zone ∨ (tempMode = 0 ∧ (temp < -160 ∨ 500 < temp)) ∨ 2 < kind ∨ 1 < copy) →
      exec (.calcPower zone tempMode temp kind copy) s = .next (s.reply (.refused 0xFF .badParameter 0x41))) ∧
    (zone ≤ 15 → (tempMode = 0 → -160 ≤ temp ∧ temp ≤ 500) → kind ≤ 2 → copy ≤ 1 →
      let x := if kind = 0 then s.power.read else if kind = 1 then s.power.erase else s.power.write
      let r := compute (if copy = 0 then x.active else x.staged) zone
        (if tempMode = 0 then { value := some temp, stale := false }
         else { value := s.sup.temperature, stale := s.sup.stale })
      exec (.calcPower zone tempMode temp kind copy) s = .next (s.reply (.calcReport r.code r.acc r.flags)))

/-- A computation's code lies within the set's limits; its accumulator lies in 24 bits; OVF is flagged exactly where the
temperature term carries the sum out of range, at most one limit flag is raised, and the quotient is rounded by the set's
mode (R128 to R132). -/
def Obligations.ComputationStaysWithinItsLimits : Prop :=
  ∀ (c : Coefficients) (zone : Nat) (temp : TempInput), c.pmin ≤ c.pmax → c.b ≤ 1023 → zone ≤ 15 →
    -32768 ≤ c.g → c.g ≤ 32767 →
    let r := compute c zone temp
    let theta := match temp.value with | some v => v | none => c.thetaRef
    let delta := if (theta - c.thetaRef).natAbs ≤ c.d then 0 else theta - c.thetaRef
    let sum := (c.b : Int) * 256 + c.g * zone + c.k * delta
    c.pmin ≤ r.code ∧ r.code ≤ c.pmax ∧
    r.acc = max (-8388608) (min 8388607 sum) ∧
    r.flags.ovf = decide (sum < -8388608 ∨ 8388607 < sum) ∧
    r.flags.stale = (temp.stale || temp.value.isNone) ∧
    r.flags.deadband = decide ((theta - c.thetaRef).natAbs ≤ c.d) ∧
    (r.flags.limLow && r.flags.limHigh) = false ∧
    ∃ q : Int, (c.round = .nearest → NearestEven r.acc q) ∧ (c.round = .truncate → q = Int.tdiv r.acc 256) ∧
      -32768 ≤ q ∧ q ≤ 32768 ∧ (r.flags.limLow = decide (q < c.pmin)) ∧ (r.flags.limHigh = decide (c.pmax < q)) ∧
      (r.flags.limLow = true → r.code = c.pmin) ∧ (r.flags.limHigh = true → r.code = c.pmax) ∧
      (r.flags.limLow = false → r.flags.limHigh = false → (r.code : Int) = q) ∧
      (c.pmax ≤ 1023 → (8388607 < sum → r.flags.limHigh = true) ∧ (sum < -8388608 → r.flags.limLow = true))

/-! ### The defect map (Chapter 8) -/

/-- FLUSH MAP is refused by the first check of R153 that fails; of a clean map it ends at once, COMPLETE with counters 0; of a
dirty one it begins a flush of 17 sectors. -/
def Obligations.FlushMapBeginsOrEnds : Prop :=
  ∀ (tag : Nat) (s : State), FrameArrives s →
    let record (n : Nat) (st : RequestState) : Request :=
      { tag := tag, kind := .flushMap, span := none, preErased := false, state := st, outstanding := n, doneCount := 0
        failed := 0, blank := 0, reassigned := 0, disturbed := 0, firstFailure := none, abortReason := none }
    (∀ reason, flushRefusal tag s = some reason →
      exec (.flushMap tag) s = .next (s.reply (.refused tag reason 0x12))) ∧
    (flushRefusal tag s = none → s.remap.dirty = true →
      exec (.flushMap tag) s = .next { s.reply (.taken tag 0x12 0) with
        requests := s.requests ++ [record 17 .opened]
        remap := { s.remap with flush := some { owner := some tag, phase := .waitingForSlots,
                                                sectors := List.replicate 17 .noSlot, images := [], stale := false } } }) ∧
    (flushRefusal tag s = none → s.remap.dirty = false →
      exec (.flushMap tag) s = .next (({ s.reply (.taken tag 0x12 0) with
        requests := s.requests ++ [record 0 .ended] }).compose (.done tag .complete .none
          { doneCount := 0, failed := 0, blank := 0, reassigned := 0, disturbed := 0 } none)))

/-- READ MAP reports up to 64 of the entries that follow the cursor, with the END mark where they include the last, and moves
the cursor behind them; nothing else changes (R158). -/
def Obligations.ReadMapReportsAndMovesTheCursor : Prop :=
  ∀ (options : Nat) (s : State), FrameArrives s →
    let cursor := if options % 2 = 1 then Cursor.start else s.remap.cursor
    let following := match cursor with
      | .start => s.remap.entries
      | .after p => s.remap.entries.filter fun e => decide (p.rank < e.position.rank)
      | .atEnd => []
    let report (last : Bool) : Record := .mapReport
      { status := s.remap.status, generation := s.remap.generation, dirty := s.remap.dirty
        count := s.remap.entries.length, atEnd := last, entries := following.take 64 }
    (following.length ≤ 64 →
      exec (.readMap options) s = .next { s.reply (report true) with remap := { s.remap with cursor := .atEnd } }) ∧
    (∀ e, 64 < following.length → following[63]? = some e →
      exec (.readMap options) s =
        .next { s.reply (report false) with remap := { s.remap with cursor := .after e.position } })

/-- The load decision: all BLANK is an empty map; seventeen GOOD sectors that make a valid image are the table; anything else
is a damaged map, which enters the inhibit set and is the mount's reason if none is recorded (R20, R151). An image is valid
where every condition of R151 holds: the sector numbers, one generation, the counts and their packing, at most 2,048 entries,
table order, LSNs in range, each spare of class SPARE and named once. -/
def Obligations.LoadDecisionHasThreeOutcomes : Prop :=
  (∀ ms : List MapSector, validImage ms = true ↔ ValidImage ms) ∧
  ∀ (s : State) (results : List LoadResult), s.remap.load = some (results.map some) → s.sup.mount = .mapping →
    let leg (reason : Option Reason) := s.sup.mountCtx.map fun m : MountContext =>
      { m with mapLeg := true, reason := match m.reason with | some x => some x | none => reason }
    let base := { s.remap with dirty := false, fullMark := false, load := none }
    ((∀ r ∈ results, r = .blank) → exec .mapLoadDecision s = .next { s with
      remap := { base with entries := [], generation := 0, status := .loaded }
      sup := { s.sup with mountCtx := leg none } }) ∧
    (∀ m ms, results = (m :: ms).map (fun x => .good (some x)) → validImage (m :: ms) = true →
      exec .mapLoadDecision s = .next { s with
        remap := { base with
          entries := ((m :: ms).flatMap MapSector.entries).map StoredEntry.toEntry, generation := m.generation
          status := .loaded }
        sup := { s.sup with mountCtx := leg none } }) ∧
    ((∃ r ∈ results, r ≠ .blank) →
      (∀ ms, results = ms.map (fun x => .good (some x)) → validImage ms = false) →
      exec .mapLoadDecision s = .next { s with
        remap := { base with entries := [], generation := 0, status := .damaged }
        sup := { s.sup with
          mountCtx := leg (some .mapDamaged)
          inhibit := if .mapDamaged ∈ s.sup.inhibit then s.sup.inhibit else s.sup.inhibit ++ [.mapDamaged] } })

/-- While the table has room an allocation succeeds, with a spare of class SPARE that no entry names: the first free one in
the order of the bands, nearest first, the higher zone before the lower at one distance, then by PSA; a full table refuses it
(R143, R145). A failed spare that the job owns PENDING is retired; a job that has tried three ends SPARE LIMIT, one that
gets a spare is redirected to it, and one that gets none ends NO SPARE with MAP FULL raised once (R143, R144). At a DONE the
PENDING entry becomes ACTIVE and the older ACTIVE one RETIRED; at any other end it is dropped; the first two set the dirty
flag and the stale mark of a snapshot taken (R146 to R148, R154). -/
def Obligations.AllocationSucceedsWhileTheTableHasRoom : Prop :=
  (∀ (entries : List Entry) (lsn : Nat), lsn < 464128 →
    (entries.length < 2048 → ∃ p, allocateSpare entries lsn = some p ∧ p.cls = some .spare ∧
      (∀ e ∈ entries, e.spare ≠ p) ∧
      (∀ q : Psa, q.cls = some .spare → trackZone q.track = lsnZone lsn → (∀ e ∈ entries, e.spare ≠ q) →
        q ≠ p → trackZone p.track = lsnZone lsn ∧ p.precedes q = true) ∧
      ∀ q : Psa, q.cls = some .spare → (∀ e ∈ entries, e.spare ≠ q) → q ≠ p →
        let far (x : Psa) := ((trackZone x.track : Int) - lsnZone lsn).natAbs
        far p < far q ∨ (far p = far q ∧ trackZone q.track < trackZone p.track) ∨
          (trackZone p.track = trackZone q.track ∧ p.precedes q = true)) ∧
    (2048 ≤ entries.length → allocateSpare entries lsn = none)) ∧
  (∀ (r : Remap) (id : JobId) (lsn : Nat) (spare : Psa), .pending lsn spare id ∈ r.entries →
    (∀ e ∈ r.entries, e.ownedBy id = true → e = .pending lsn spare id) →
    let stale := r.flush.map fun f => { f with stale := f.stale || decide (f.phase ≠ .waitingForSlots) }
    let retired := r.retireOwned id spare
    let activated := r.activateOwned id
    (∀ e, e ∈ retired.entries ↔ e = .retired spare ∨ (e ∈ r.entries ∧ e.ownedBy id = false)) ∧
    retired = { r with entries := retired.entries, dirty := true, flush := stale } ∧
    (∀ target, target ≠ spare → r.retireOwned id target = r) ∧
    (∀ e, e ∈ activated.entries ↔ e = .active lsn spare ∨ (∃ old, .active lsn old ∈ r.entries ∧ e = .retired old) ∨
      (e ∈ r.entries ∧ e.ownedBy id = false ∧ e.isActiveOf lsn = false)) ∧
    activated = { r with entries := activated.entries, dirty := true, flush := stale }) ∧
  (∀ (r : Remap) (id : JobId) (target : Psa), (∀ e ∈ r.entries, e.ownedBy id = false) →
    r.retireOwned id target = r ∧ r.activateOwned id = r) ∧
  (∀ (s : State) (j : Job) (lsn : Nat), (s.jobs.map Job.id).Nodup → s.job? j.id = some j →
    (j.kind = .hostWrite ∨ j.kind = .hostErase ∨ j.kind = .refresh) → j.lsn = some lsn →
    let remap := s.remap.retireOwned j.id j.target
    (3 ≤ j.sparesTried → WriterFails s (s.reassign j.id) remap s j .spareLimit) ∧
    (∀ spare, j.sparesTried < 3 → allocateSpare remap.entries lsn = some spare →
      s.reassign j.id = { s with
        remap := { remap with entries := insertEntry (.pending lsn spare j.id) remap.entries }
        jobs := s.jobs.map fun o => if o.id = j.id then
            { o with target := spare, attempts := 1 + s.cfg.writeRetries, idFailures := 0
                     sparesTried := o.sparesTried + 1, phase := .needErase }
          else o } ∧
      ∀ e, e ∈ insertEntry (.pending lsn spare j.id) remap.entries ↔ e = .pending lsn spare j.id ∨ e ∈ remap.entries) ∧
    (j.sparesTried < 3 → allocateSpare remap.entries lsn = none →
      WriterFails s (s.reassign j.id) { remap with fullMark := true }
        (if s.remap.fullMark then s else s.raise .mapFull) j .noSpare) ∧
    (∀ reason, (s.endJob j (.failed reason)).remap =
        { s.remap with entries := s.remap.entries.filter fun e => !e.ownedBy j.id }) ∧
    (s.endJob j .cancelled).remap = { s.remap with entries := s.remap.entries.filter fun e => !e.ownedBy j.id })

/-- A waiting flush takes 17 slots when the free pool holds them: the generation rises, the snapshot's images stand in the
slots, and every sector waits for its claim; then each claim met by a free entry makes one MAP WRITE job, in sector order
(R40, R149, R154). A flush that has failed takes no slots and meets no claim (R156). The image holds the ACTIVE and RETIRED
entries in order, 126 to a sector, and loads back as them (R149, R151). Which 17 slots are taken (assumption 7) and the
generation after the greatest (assumption 19) are the model's choice. -/
def Obligations.FlushTakesSlotsAndCreatesItsJobs : Prop :=
  (∀ (s : State) (f : FlushContext), s.remap.flush = some f → (∃ reason, .failed reason ∈ f.sectors) →
    exec .flushTakesSlots s = .next s ∧ exec .mapWriteClaimMet s = .next s) ∧
  (∀ (s : State) (f : FlushContext), s.remap.flush = some f → f.phase = .waitingForSlots → 17 ≤ s.pool.length →
    s.pool.Nodup → s.sup.inhibit = [] → (∀ reason, .failed reason ∉ f.sectors) →
    ∃ t, exec .flushTakesSlots s = .next t ∧ t.pool = s.pool.drop 17 ∧
      t.remap = { s.remap with
        generation := s.remap.generation + 1
        flush := some { f with
          phase := .writing0to15, sectors := (s.pool.take 17).map .waiting, stale := false
          images := mapImage s.remap.entries (s.remap.generation + 1) } } ∧
      (∀ k slot, k < 17 → s.pool[k]? = some slot → ∃ m,
        (mapImage s.remap.entries (s.remap.generation + 1))[k]? = some m ∧ m.number = k ∧
        t.sram.readSlot slot = fieldBytes (.image m)) ∧
      (∀ slot, slot ∉ s.pool.take 17 → t.sram.readSlot slot = s.sram.readSlot slot) ∧
      t.jobs = s.jobs ∧ t.requests = s.requests ∧ t.sup = s.sup ∧ t.link = s.link ∧ t.conditions = s.conditions) ∧
  (∀ (s : State) (f : FlushContext) (k : Nat) (ks : List Nat) (slot : Slot), s.remap.flush = some f →
    f.claims = k :: ks → f.sectors[k]? = some (.waiting slot) → s.jobs.length < 256 → s.sup.inhibit = [] →
    (∀ reason, .failed reason ∉ f.sectors) → (s.stream.fetch = none ∨ s.stream.ringFree = []) →
    ∃ t j, exec .mapWriteClaimMet s = .next t ∧ t.jobs = s.jobs ++ [j] ∧ (∀ o ∈ s.jobs, o.id ≠ j.id) ∧
      j.kind = .mapWrite ∧ j.owner = .map ∧ j.lsn = none ∧ j.target = ⟨19200, k⟩ ∧ j.phase = .needErase ∧
      j.slot = some slot ∧ j.dataPresent = true ∧ j.attempts = 1 + s.cfg.writeRetries ∧
      t.remap = { s.remap with flush := some { f with sectors := f.sectors.set k .writing } } ∧
      t.pool = s.pool ∧ t.sram = s.sram ∧ t.sup = s.sup ∧ t.requests = s.requests ∧ t.link = s.link) ∧
  (∀ (entries : List Entry) (generation : BitVec 32), (mapImage entries generation).length = 17 ∧
    ∀ k, k < 17 → (mapImage entries generation)[k]? = some
      { number := k, generation := generation, count := min 126 ((storedEntries entries).length - 126 * k)
        entries := ((storedEntries entries).drop (126 * k)).take 126 }) ∧
  (∀ (entries : List Entry) (generation : BitVec 32), entries.length ≤ 2048 →
    (entries.Pairwise fun a b => a.rank < b.rank) → (entries.map Entry.spare).Nodup →
    (∀ e ∈ entries, e.spare.cls = some .spare ∧ ∀ l ∈ e.lsn?, l < 464128) →
    loadDecision ((mapImage entries generation).map fun m => .good (some m)) =
      .loaded (entries.filter fun e => !e.isPending) generation)

/-- A flush whose 17 sectors are all DONE ends: the dirty flag is cleared unless the stale mark is set, and its FLUSH MAP
ends COMPLETE, or the unmount goes on to SPINNING DOWN. A flush with a FAILED sector enters MAP WRITE FAILED, records every
sector without a job FAILED (for sector 16 the model's reading, assumption 25), their slots free, and keeps the dirty flag
and the generation; in a mounted state that it does not leave, the second inhibit stage is due, at the next index with the
head REVOLVING, else at once (R30). With 17 results, at that moment or, where sectors were still being written, later, it
ends: its FLUSH MAP COMPLETE WITH ERRORS with the first failure's reason, or the unmount with MAP WRITE FAILED (R22, R155,
R156). -/
def Obligations.FlushEndsBySuccessOrFailure : Prop :=
  (∀ (s : State) (f : FlushContext), s.remap.flush = some f → f.phase ≠ .waitingForSlots →
    (∀ x ∈ f.sectors, x = .done) →
    (∀ tag r, f.owner = some tag → s.request? tag = some r → r.state = .opened → r.abortReason = none → r.failed = 0 →
      ∃ t, exec .flushSucceeds s = .next t ∧
        t.remap = { s.remap with flush := none, dirty := s.remap.dirty && f.stale } ∧
        t.link.outbound = s.link.outbound ++ [.done r.tag .complete .none
          { doneCount := r.doneCount, failed := 0, blank := r.blank, reassigned := r.reassigned
            disturbed := r.disturbed } (r.firstFailure.bind Prod.fst)] ∧
        t.sup = s.sup ∧ t.jobs = s.jobs ∧ t.pool = s.pool) ∧
    (f.owner = none → ∃ t, exec .flushSucceeds s = .next t ∧
      t.remap = { s.remap with flush := none, dirty := s.remap.dirty && f.stale } ∧ t.sup.mount = .spinningDown ∧
      t.sup.unmountCtx = s.sup.unmountCtx ∧ t.requests = s.requests ∧ t.link = s.link)) ∧
  (∀ (s : State) (f : FlushContext), s.remap.flush = some f → (∃ reason, .failed reason ∈ f.sectors) →
    f.sectors.length = 17 → .mapWriteFailed ∉ s.sup.inhibit →
    ∃ t, exec .flushFails s = .next t ∧ .mapWriteFailed ∈ t.sup.inhibit ∧ t.remap.dirty = s.remap.dirty ∧
      t.remap.generation = s.remap.generation ∧ t.remap.entries = s.remap.entries ∧ t.jobs = s.jobs ∧
      t.pool.Perm (s.pool ++ f.reserved) ∧ t.sram = s.sram ∧
      ((f.owner ≠ none ∨ .writing ∈ f.sectors) → s.sup.mount.mounted = true → s.sup.secondStage ≠ .now → t.sup = { s.sup with
        inhibit := s.sup.inhibit ++ [.mapWriteFailed]
        secondStage := if s.planner.head = .revolving then .atIndex else .now }) ∧
      (∀ f', t.remap.flush = some f' → ∀ x ∈ f'.sectors, x = .writing ∨ x = .done ∨ ∃ reason, x = .failed reason) ∧
      ((∀ x ∈ f.sectors, x ≠ .writing) → FailedFlushEnds s t f f.uncreated) ∧
      (.writing ∈ f.sectors → t.remap.flush.isSome = true ∧ t.link = s.link ∧ t.sup.mount = s.sup.mount ∧
        ∀ tag r, f.owner = some tag → s.request? tag = some r → ∃ r', t.request? tag = some r' ∧
          r'.failed = r.failed + f.uncreated ∧ r'.outstanding = r.outstanding - f.uncreated ∧ r'.state = r.state)) ∧
  (∀ (s : State) (f : FlushContext), s.remap.flush = some f → (∃ reason, .failed reason ∈ f.sectors) →
    (∀ x ∈ f.sectors, x = .done ∨ ∃ reason, x = .failed reason) → .mapWriteFailed ∈ s.sup.inhibit →
    ∃ t, exec .flushFails s = .next t ∧ FailedFlushEnds s t f 0 ∧ t.sup.inhibit = s.sup.inhibit ∧
      t.remap.dirty = s.remap.dirty ∧ t.remap.generation = s.remap.generation ∧ t.remap.entries = s.remap.entries ∧
      t.jobs = s.jobs ∧ t.pool = s.pool)

/-! ### Page streaming (Chapter 9) -/

/-- PLAY is refused by the first check of R165 that fails, and otherwise becomes the active page where there is none, else
the pending one; a released ring is reserved; the fetch pointer names the page's sector 0 where it named none (R165, R166). Which slots the
ring takes (assumption 7), and that a page taken behind an abandoned one is pointed at (assumption 37), are the model's
choice. -/
def Obligations.PlayAddsAPage : Prop :=
  ∀ (pageId lsn lineLen lineCount : Nat) (s : State), FrameArrives s →
    let page : Page :=
      { pageId := pageId, startLsn := lsn, lineLen := lineLen, lineCount := lineCount, started := false
        abandoned := false, lines := 0, fillLines := 0, killedLines := 0, failedSectors := 0, lastLine := none }
    (∀ reason, playRefusal lsn lineLen lineCount s = some reason →
      exec (.play pageId lsn lineLen lineCount) s = .next (s.reply (.refused 0xFF reason 0x30))) ∧
    (playRefusal lsn lineLen lineCount s = none →
      exec (.play pageId lsn lineLen lineCount) s = .next { s.reply (.taken 0xFF 0x30 0) with
        pool := if s.stream.reserved then s.pool else s.pool.drop s.cfg.ringSize
        stream :=
          let ring := { s.stream with
            reserved := true
            ringFree := if s.stream.reserved then s.stream.ringFree else s.pool.take s.cfg.ringSize }
          if s.stream.active = none then
            { ring with
              active := some page, readPos := 0, idleLen := lineLen
              fetch := if s.stream.fetch = none then some (.active, 0) else s.stream.fetch }
          else
            { ring with
              pendingPage := some page
              fetch := if s.stream.fetch = none then some (.pending, 0) else s.stream.fetch } })

/-- STOP PLAY without a page changes nothing but its answer; with one, both pages end STOPPED, each with its PAGE DONE in
order, their stream jobs become orphans, and every filled slot becomes free in the ring, or, where no stream job remains,
the ring is released and its slots are free in the pool (R166, R178); the order in which they join the one and the other is
the model's choice (assumption 7). SET RECORDER replaces the staged settings, or is
refused for a value not listed (R179). -/
def Obligations.StopPlayAndSetRecorder : Prop :=
  ∀ s : State, FrameArrives s →
    (s.stream.active = none → s.stream.pendingPage = none →
      exec .stopPlay s = .next (s.reply (.taken 0xFF 0x31 0))) ∧
    (∀ p, s.stream.active = some p → ∃ t, exec .stopPlay s = .next t ∧
      t.link.outbound = (s.reply (.taken 0xFF 0x31 0)).link.outbound ++
        (p :: s.stream.pendingPage.toList).map
          (fun q => .pageDone q.pageId .stopped q.lines q.fillLines q.killedLines q.failedSectors) ∧
      t.stream.active = none ∧ t.stream.pendingPage = none ∧ t.stream.pageReady = false ∧ t.stream.fetch = none ∧
      t.stream.readPos = 0 ∧ t.stream.filled = [] ∧ t.stream.idleLen = s.stream.idleLen ∧
      t.jobs.map Job.id = s.jobs.map Job.id ∧
      (∀ j ∈ t.jobs, j.kind = .streamRead → j.page ≠ none → j.page.map Prod.fst = some .orphan) ∧
      ((s.stream.reserved = false ∨ s.jobs.any Job.isStream = true) → t.stream.reserved = s.stream.reserved ∧
        t.stream.ringFree = s.stream.ringFree ++ s.stream.filled.map Filled.slot ∧ t.pool = s.pool) ∧
      (s.stream.reserved = true → s.jobs.any Job.isStream = false → t.stream.reserved = false ∧ t.stream.ringFree = [] ∧
        t.pool = s.pool ++ (s.stream.ringFree ++ s.stream.filled.map Filled.slot)) ∧
      t.requests = s.requests ∧ t.sup = s.sup ∧ t.emitted = s.emitted ∧ t.sram = s.sram ∧
      t.conditions = s.conditions) ∧
    (∀ invert mirror fill, (1 < invert ∨ 1 < mirror ∨ 3 < fill) →
      exec (.setRecorder invert mirror fill) s = .next (s.reply (.refused 0xFF .badParameter 0x32))) ∧
    (∀ invert mirror fill, invert ≤ 1 → mirror ≤ 1 → fill ≤ 3 →
      exec (.setRecorder invert mirror fill) s = .next { s.reply (.taken 0xFF 0x32 0) with
        stream := { s.stream with staged :=
          { invert := decide (invert = 1), mirror := decide (mirror = 1)
            fill := if fill = 0 then .white else if fill = 1 then .black else if fill = 2 then .repeatLast else .abort } } })

/-- While the head is not REVOLVING the orphans leave the table at once and their slots are free in the ring; where no page
and no other stream job remains, the ring is released and all its slots are free in the pool (R166, R178). The fetcher's
claim, met by a free entry, makes one STREAM READ job for the sector the fetch pointer names, in a free ring slot, and moves
the pointer on (R167). The order in which slots join the ring and the pool, and that the slot given is the one that has been
free longest, are the model's choice (assumption 7; that the oldest orphan's slot goes first, assumption 44). -/
def Obligations.OrphansLeaveAndClaimsAreMet : Prop :=
  (∀ s : State, s.planner.head ≠ .revolving → (∃ j ∈ s.jobs, j.isOrphan = true) → (s.jobs.map Job.id).Nodup →
    (∀ j ∈ s.jobs, j.isOrphan = true → j.owner = .stream ∧ j.slot.isSome = true) →
    let freed := (s.jobs.filter Job.isOrphan).filterMap Job.slot
    let last := s.stream.active = none ∧ s.stream.pendingPage = none ∧
      ∀ j ∈ s.jobs, j.isStream = true → j.isOrphan = true
    ∃ t, exec .orphanRemoval s = .next t ∧ t.jobs.map Job.id = (s.jobs.filter fun j => !j.isOrphan).map Job.id ∧
      t.orphanCount = 0 ∧
      (s.stream.reserved = true → last →
        t.stream = { s.stream with reserved := false, ringFree := [], filled := [] } ∧
        t.pool = s.pool ++ (s.stream.ringFree ++ freed) ++ s.stream.filled.map Filled.slot) ∧
      ((s.stream.reserved = false ∨ ¬last) →
        t.stream = { s.stream with ringFree := s.stream.ringFree ++ freed } ∧ t.pool = s.pool) ∧
      t.requests = s.requests ∧ t.link = s.link ∧ t.conditions = s.conditions ∧
      t.sup = s.sup ∧ t.sram = s.sram ∧ t.emitted = s.emitted) ∧
  (∀ (s : State) (place : Place) (sector : Nat) (p : Page) (slot : Slot) (rest : List Slot),
    s.stream.fetch = some (place, sector) → s.stream.ringFree = slot :: rest → s.stream.pageAt place = some p →
    s.jobs.length < 256 →
    ∃ t j, exec .streamClaimMet s = .next t ∧ t.jobs = s.jobs ++ [j] ∧ (∀ o ∈ s.jobs, o.id ≠ j.id) ∧
      j.kind = .streamRead ∧ j.owner = .stream ∧ j.lsn = some (p.startLsn + sector) ∧ j.slot = some slot ∧
      j.page = some (place, sector) ∧ j.dataPresent = false ∧ j.attempts = 1 + s.cfg.readRetries ∧
      j.target = s.effective (p.startLsn + sector) ∧ j.heldBehind = holder s.jobs j ∧
      j.phase = (if (holder s.jobs j).isSome then .held else .needRead) ∧
      t.stream.ringFree = rest ∧
      t.stream.fetch = (if sector + 1 < p.sectors then some (place, sector + 1)
        else if place = .active ∧ s.stream.pendingPage ≠ none then some (.pending, 0) else none) ∧
      t.stream.filled = s.stream.filled ∧ t.pool = s.pool ∧ t.requests = s.requests ∧ t.link = s.link)

/-- A line request with no page PLAYING gets an idle line of zero bytes. For a PLAYING page the line is: zero bytes, counted
killed, under a LEVEL kill; a WHITE fill line of an abandoned page; the transformed data where every sector it needs is
filled; and otherwise the fill line of the policy, with UNDERRUN. The read position advances by L, and the sectors then
wholly behind it, or all of a page that the line abandons, leave the ring and the table (R171 to R174, R176; for the fetch
pointer of a page abandoned when the pending page is reached, assumption 43), and the Nth line ends the page and chains the
next (R175; for the read position kept where no page is pending, R175's tables). Data is the filled slots' bytes from the
read position on; mirror reverses bytes and bits, invert complements every bit (R172). -/
def Obligations.LineRequestsAreAlwaysAnswered : Prop :=
  (∀ s : State, Quiet s →
    (s.stream.active = none → exec .lineRequest s =
      .next { s with emitted := s.emitted ++ [.line (List.replicate s.stream.idleLen 0)] }) ∧
    (∀ p, s.stream.active = some p → p.started = false → exec .lineRequest s = .next { s with
      emitted := s.emitted ++ [.line (List.replicate s.stream.idleLen 0)]
      stream := { s.stream with startTest := true } }) ∧
    (∀ p, s.stream.active = some p → p.started = true →
      let killed := s.cfg.killMode = .level ∧ s.stream.killLevel = true
      let data := s.stream.covers s.stream.readPos p.lineLen = true
      let fill := match s.stream.inForce.fill with
        | .white => List.replicate p.lineLen 0
        | .black => List.replicate p.lineLen 255
        | .repeatLast => p.lastLine.getD (List.replicate p.lineLen 0)
        | .abort => List.replicate p.lineLen 0
      let answers (line : List Byte) (fillLines killedLines : Nat) (abandoned : Bool) (conditions : List Condition) :=
        ∃ t, exec .lineRequest s = .next t ∧ AnswersLine s t p line fillLines killedLines abandoned conditions
      (s.jobs.map Job.id).Nodup → (∀ j ∈ s.jobs, j.kind = .streamRead → j.owner = .stream ∧ j.slot.isSome = true) →
      (killed → answers (List.replicate p.lineLen 0) 0 1 p.abandoned s.conditions) ∧
      (¬killed → p.abandoned = true → answers (List.replicate p.lineLen 0) 1 0 true s.conditions) ∧
      (¬killed → p.abandoned = false → data →
        answers (transformLine s.stream.inForce (s.pageBytes s.stream.readPos p.lineLen)) 0 0 false s.conditions) ∧
      (¬killed → p.abandoned = false → ¬data →
        answers fill 1 0 (decide (s.stream.inForce.fill = .abort)) (s.raise .underrun).conditions))) ∧
  (∀ (r : RecorderSettings) (line : List Byte), (transformLine r line).length = line.length ∧
    ∀ i b, i < line.length → b < 8 →
      ((transformLine r line).getD i 0).getLsbD b =
        (r.invert ^^ (if r.mirror then (line.getD (line.length - 1 - i) 0).getLsbD (7 - b)
          else (line.getD i 0).getLsbD b))) ∧
  (∀ (s : State) (pos len : Nat), (s.pageBytes pos len).length = len ∧
    (∀ i x, i < len → s.stream.filled.find? (fun x => decide (x.place = .active ∧ x.sector = (pos + i) / 1024)) = some x →
      (s.pageBytes pos len).getD i 0 = (s.sram.readSlot x.slot).getD ((pos + i) % 1024) 0) ∧
    (0 < len → (s.stream.covers pos len = true ↔
      ∀ i, i < len → ∃ x ∈ s.stream.filled, x.place = .active ∧ x.sector = (pos + i) / 1024)))

/-- A due page-start test starts a WAITING page whose start condition holds, with the staged settings in force and PAGE READY
asserted, and otherwise only has been made. A kill assertion sets the level and raises RECORDER KILL, and in EDGE mode ends a
PLAYING page KILLED: its stream jobs are gone and its slots free, the pending page is the active one with its jobs and filled
slots, or, with no page and no stream job left, the ring is released (R166). A release clears the level (R170, R176, R177).
That the read position stays where no page is pending is the model's choice (assumption 34). -/
def Obligations.PageStartAndKillInput : Prop :=
  (∀ (s : State) (p : Page), s.stream.startTest = true → s.stream.active = some p → p.started = false →
    ((s.cfg.wHi ≤ s.stream.readyRun ∨ s.stream.filledFrom .active 0 = p.sectors) →
      exec .pageStart s = .next { s with stream := { s.stream with
        active := some { p with started := true }, inForce := s.stream.staged, pageReady := true
        startTest := false } }) ∧
    (¬(s.cfg.wHi ≤ s.stream.readyRun ∨ s.stream.filledFrom .active 0 = p.sectors) →
      exec .pageStart s = .next { s with stream := { s.stream with startTest := false } })) ∧
  (∀ s : State, Quiet s →
    exec .killReleased s = .next { s with stream := { s.stream with killLevel := false } } ∧
    ((s.cfg.killMode = .level ∨ ∀ p, s.stream.active = some p → p.started = false) →
      exec .killAsserted s = .next { s.raise .recorderKill with
        stream := { s.stream with killLevel := true } }) ∧
    (∀ p, s.cfg.killMode = .edge → s.stream.active = some p → p.started = true →
      (s.jobs.map Job.id).Nodup → (∀ j ∈ s.jobs, j.kind = .streamRead → j.owner = .stream) →
      ∃ t, exec .killAsserted s = .next t ∧ t.conditions = (s.raise .recorderKill).conditions ∧
        t.link.outbound = s.link.outbound ++
          [.pageDone p.pageId .killed p.lines p.fillLines p.killedLines p.failedSectors] ∧
        t.stream.active = s.stream.pendingPage ∧ t.stream.pendingPage = none ∧ t.stream.pageReady = false ∧
        t.stream.killLevel = true ∧ PageLeavesRing s t ∧
        (∀ q, s.stream.pendingPage = some q → t.stream.readPos = 0 ∧ t.stream.idleLen = q.lineLen) ∧
        (s.stream.pendingPage = none → t.stream.readPos = s.stream.readPos ∧ t.stream.idleLen = s.stream.idleLen) ∧
        t.emitted = s.emitted ∧ t.requests = s.requests ∧
        t.sup = s.sup ∧ t.sram = s.sram))

end Statements
end

