-- ==== Sys2Proof/Laws/State.lean ====
section
/-! SUPPORT. One lemma for each block of State and each updater, true by rfl: an updater replaces its own block and
leaves every other one. -/

namespace Sys2Proof.Machine.State

variable (s : State)

@[simp] theorem withSup_sup (x) : (s.withSup x).sup = x := rfl
@[simp] theorem withSup_cfg (x) : (s.withSup x).cfg = s.cfg := rfl
@[simp] theorem withSup_requests (x) : (s.withSup x).requests = s.requests := rfl
@[simp] theorem withSup_jobs (x) : (s.withSup x).jobs = s.jobs := rfl
@[simp] theorem withSup_pool (x) : (s.withSup x).pool = s.pool := rfl
@[simp] theorem withSup_sram (x) : (s.withSup x).sram = s.sram := rfl
@[simp] theorem withSup_planner (x) : (s.withSup x).planner = s.planner := rfl
@[simp] theorem withSup_seq (x) : (s.withSup x).seq = s.seq := rfl
@[simp] theorem withSup_magnet (x) : (s.withSup x).magnet = s.magnet := rfl
@[simp] theorem withSup_power (x) : (s.withSup x).power = s.power := rfl
@[simp] theorem withSup_remap (x) : (s.withSup x).remap = s.remap := rfl
@[simp] theorem withSup_stream (x) : (s.withSup x).stream = s.stream := rfl
@[simp] theorem withSup_link (x) : (s.withSup x).link = s.link := rfl
@[simp] theorem withSup_conditions (x) : (s.withSup x).conditions = s.conditions := rfl
@[simp] theorem withSup_emitted (x) : (s.withSup x).emitted = s.emitted := rfl
@[simp] theorem withSup_pending (x) : (s.withSup x).pending = s.pending := rfl
@[simp] theorem withSup_twice (x y) : (s.withSup x).withSup y = s.withSup y := rfl

@[simp] theorem withCfg_sup (x) : (s.withCfg x).sup = s.sup := rfl
@[simp] theorem withCfg_cfg (x) : (s.withCfg x).cfg = x := rfl
@[simp] theorem withCfg_requests (x) : (s.withCfg x).requests = s.requests := rfl
@[simp] theorem withCfg_jobs (x) : (s.withCfg x).jobs = s.jobs := rfl
@[simp] theorem withCfg_pool (x) : (s.withCfg x).pool = s.pool := rfl
@[simp] theorem withCfg_sram (x) : (s.withCfg x).sram = s.sram := rfl
@[simp] theorem withCfg_planner (x) : (s.withCfg x).planner = s.planner := rfl
@[simp] theorem withCfg_seq (x) : (s.withCfg x).seq = s.seq := rfl
@[simp] theorem withCfg_magnet (x) : (s.withCfg x).magnet = s.magnet := rfl
@[simp] theorem withCfg_power (x) : (s.withCfg x).power = s.power := rfl
@[simp] theorem withCfg_remap (x) : (s.withCfg x).remap = s.remap := rfl
@[simp] theorem withCfg_stream (x) : (s.withCfg x).stream = s.stream := rfl
@[simp] theorem withCfg_link (x) : (s.withCfg x).link = s.link := rfl
@[simp] theorem withCfg_conditions (x) : (s.withCfg x).conditions = s.conditions := rfl
@[simp] theorem withCfg_emitted (x) : (s.withCfg x).emitted = s.emitted := rfl
@[simp] theorem withCfg_pending (x) : (s.withCfg x).pending = s.pending := rfl
@[simp] theorem withCfg_twice (x y) : (s.withCfg x).withCfg y = s.withCfg y := rfl

@[simp] theorem withRequests_sup (x) : (s.withRequests x).sup = s.sup := rfl
@[simp] theorem withRequests_cfg (x) : (s.withRequests x).cfg = s.cfg := rfl
@[simp] theorem withRequests_requests (x) : (s.withRequests x).requests = x := rfl
@[simp] theorem withRequests_jobs (x) : (s.withRequests x).jobs = s.jobs := rfl
@[simp] theorem withRequests_pool (x) : (s.withRequests x).pool = s.pool := rfl
@[simp] theorem withRequests_sram (x) : (s.withRequests x).sram = s.sram := rfl
@[simp] theorem withRequests_planner (x) : (s.withRequests x).planner = s.planner := rfl
@[simp] theorem withRequests_seq (x) : (s.withRequests x).seq = s.seq := rfl
@[simp] theorem withRequests_magnet (x) : (s.withRequests x).magnet = s.magnet := rfl
@[simp] theorem withRequests_power (x) : (s.withRequests x).power = s.power := rfl
@[simp] theorem withRequests_remap (x) : (s.withRequests x).remap = s.remap := rfl
@[simp] theorem withRequests_stream (x) : (s.withRequests x).stream = s.stream := rfl
@[simp] theorem withRequests_link (x) : (s.withRequests x).link = s.link := rfl
@[simp] theorem withRequests_conditions (x) : (s.withRequests x).conditions = s.conditions := rfl
@[simp] theorem withRequests_emitted (x) : (s.withRequests x).emitted = s.emitted := rfl
@[simp] theorem withRequests_pending (x) : (s.withRequests x).pending = s.pending := rfl
@[simp] theorem withRequests_twice (x y) : (s.withRequests x).withRequests y = s.withRequests y := rfl

@[simp] theorem withJobs_sup (x) : (s.withJobs x).sup = s.sup := rfl
@[simp] theorem withJobs_cfg (x) : (s.withJobs x).cfg = s.cfg := rfl
@[simp] theorem withJobs_requests (x) : (s.withJobs x).requests = s.requests := rfl
@[simp] theorem withJobs_jobs (x) : (s.withJobs x).jobs = x := rfl
@[simp] theorem withJobs_pool (x) : (s.withJobs x).pool = s.pool := rfl
@[simp] theorem withJobs_sram (x) : (s.withJobs x).sram = s.sram := rfl
@[simp] theorem withJobs_planner (x) : (s.withJobs x).planner = s.planner := rfl
@[simp] theorem withJobs_seq (x) : (s.withJobs x).seq = s.seq := rfl
@[simp] theorem withJobs_magnet (x) : (s.withJobs x).magnet = s.magnet := rfl
@[simp] theorem withJobs_power (x) : (s.withJobs x).power = s.power := rfl
@[simp] theorem withJobs_remap (x) : (s.withJobs x).remap = s.remap := rfl
@[simp] theorem withJobs_stream (x) : (s.withJobs x).stream = s.stream := rfl
@[simp] theorem withJobs_link (x) : (s.withJobs x).link = s.link := rfl
@[simp] theorem withJobs_conditions (x) : (s.withJobs x).conditions = s.conditions := rfl
@[simp] theorem withJobs_emitted (x) : (s.withJobs x).emitted = s.emitted := rfl
@[simp] theorem withJobs_pending (x) : (s.withJobs x).pending = s.pending := rfl
@[simp] theorem withJobs_twice (x y) : (s.withJobs x).withJobs y = s.withJobs y := rfl

@[simp] theorem withPool_sup (x) : (s.withPool x).sup = s.sup := rfl
@[simp] theorem withPool_cfg (x) : (s.withPool x).cfg = s.cfg := rfl
@[simp] theorem withPool_requests (x) : (s.withPool x).requests = s.requests := rfl
@[simp] theorem withPool_jobs (x) : (s.withPool x).jobs = s.jobs := rfl
@[simp] theorem withPool_pool (x) : (s.withPool x).pool = x := rfl
@[simp] theorem withPool_sram (x) : (s.withPool x).sram = s.sram := rfl
@[simp] theorem withPool_planner (x) : (s.withPool x).planner = s.planner := rfl
@[simp] theorem withPool_seq (x) : (s.withPool x).seq = s.seq := rfl
@[simp] theorem withPool_magnet (x) : (s.withPool x).magnet = s.magnet := rfl
@[simp] theorem withPool_power (x) : (s.withPool x).power = s.power := rfl
@[simp] theorem withPool_remap (x) : (s.withPool x).remap = s.remap := rfl
@[simp] theorem withPool_stream (x) : (s.withPool x).stream = s.stream := rfl
@[simp] theorem withPool_link (x) : (s.withPool x).link = s.link := rfl
@[simp] theorem withPool_conditions (x) : (s.withPool x).conditions = s.conditions := rfl
@[simp] theorem withPool_emitted (x) : (s.withPool x).emitted = s.emitted := rfl
@[simp] theorem withPool_pending (x) : (s.withPool x).pending = s.pending := rfl
@[simp] theorem withPool_twice (x y) : (s.withPool x).withPool y = s.withPool y := rfl

@[simp] theorem withSram_sup (x) : (s.withSram x).sup = s.sup := rfl
@[simp] theorem withSram_cfg (x) : (s.withSram x).cfg = s.cfg := rfl
@[simp] theorem withSram_requests (x) : (s.withSram x).requests = s.requests := rfl
@[simp] theorem withSram_jobs (x) : (s.withSram x).jobs = s.jobs := rfl
@[simp] theorem withSram_pool (x) : (s.withSram x).pool = s.pool := rfl
@[simp] theorem withSram_sram (x) : (s.withSram x).sram = x := rfl
@[simp] theorem withSram_planner (x) : (s.withSram x).planner = s.planner := rfl
@[simp] theorem withSram_seq (x) : (s.withSram x).seq = s.seq := rfl
@[simp] theorem withSram_magnet (x) : (s.withSram x).magnet = s.magnet := rfl
@[simp] theorem withSram_power (x) : (s.withSram x).power = s.power := rfl
@[simp] theorem withSram_remap (x) : (s.withSram x).remap = s.remap := rfl
@[simp] theorem withSram_stream (x) : (s.withSram x).stream = s.stream := rfl
@[simp] theorem withSram_link (x) : (s.withSram x).link = s.link := rfl
@[simp] theorem withSram_conditions (x) : (s.withSram x).conditions = s.conditions := rfl
@[simp] theorem withSram_emitted (x) : (s.withSram x).emitted = s.emitted := rfl
@[simp] theorem withSram_pending (x) : (s.withSram x).pending = s.pending := rfl
@[simp] theorem withSram_twice (x y) : (s.withSram x).withSram y = s.withSram y := rfl

@[simp] theorem withPlanner_sup (x) : (s.withPlanner x).sup = s.sup := rfl
@[simp] theorem withPlanner_cfg (x) : (s.withPlanner x).cfg = s.cfg := rfl
@[simp] theorem withPlanner_requests (x) : (s.withPlanner x).requests = s.requests := rfl
@[simp] theorem withPlanner_jobs (x) : (s.withPlanner x).jobs = s.jobs := rfl
@[simp] theorem withPlanner_pool (x) : (s.withPlanner x).pool = s.pool := rfl
@[simp] theorem withPlanner_sram (x) : (s.withPlanner x).sram = s.sram := rfl
@[simp] theorem withPlanner_planner (x) : (s.withPlanner x).planner = x := rfl
@[simp] theorem withPlanner_seq (x) : (s.withPlanner x).seq = s.seq := rfl
@[simp] theorem withPlanner_magnet (x) : (s.withPlanner x).magnet = s.magnet := rfl
@[simp] theorem withPlanner_power (x) : (s.withPlanner x).power = s.power := rfl
@[simp] theorem withPlanner_remap (x) : (s.withPlanner x).remap = s.remap := rfl
@[simp] theorem withPlanner_stream (x) : (s.withPlanner x).stream = s.stream := rfl
@[simp] theorem withPlanner_link (x) : (s.withPlanner x).link = s.link := rfl
@[simp] theorem withPlanner_conditions (x) : (s.withPlanner x).conditions = s.conditions := rfl
@[simp] theorem withPlanner_emitted (x) : (s.withPlanner x).emitted = s.emitted := rfl
@[simp] theorem withPlanner_pending (x) : (s.withPlanner x).pending = s.pending := rfl
@[simp] theorem withPlanner_twice (x y) : (s.withPlanner x).withPlanner y = s.withPlanner y := rfl

@[simp] theorem withSeq_sup (x) : (s.withSeq x).sup = s.sup := rfl
@[simp] theorem withSeq_cfg (x) : (s.withSeq x).cfg = s.cfg := rfl
@[simp] theorem withSeq_requests (x) : (s.withSeq x).requests = s.requests := rfl
@[simp] theorem withSeq_jobs (x) : (s.withSeq x).jobs = s.jobs := rfl
@[simp] theorem withSeq_pool (x) : (s.withSeq x).pool = s.pool := rfl
@[simp] theorem withSeq_sram (x) : (s.withSeq x).sram = s.sram := rfl
@[simp] theorem withSeq_planner (x) : (s.withSeq x).planner = s.planner := rfl
@[simp] theorem withSeq_seq (x) : (s.withSeq x).seq = x := rfl
@[simp] theorem withSeq_magnet (x) : (s.withSeq x).magnet = s.magnet := rfl
@[simp] theorem withSeq_power (x) : (s.withSeq x).power = s.power := rfl
@[simp] theorem withSeq_remap (x) : (s.withSeq x).remap = s.remap := rfl
@[simp] theorem withSeq_stream (x) : (s.withSeq x).stream = s.stream := rfl
@[simp] theorem withSeq_link (x) : (s.withSeq x).link = s.link := rfl
@[simp] theorem withSeq_conditions (x) : (s.withSeq x).conditions = s.conditions := rfl
@[simp] theorem withSeq_emitted (x) : (s.withSeq x).emitted = s.emitted := rfl
@[simp] theorem withSeq_pending (x) : (s.withSeq x).pending = s.pending := rfl
@[simp] theorem withSeq_twice (x y) : (s.withSeq x).withSeq y = s.withSeq y := rfl

@[simp] theorem withMagnet_sup (x) : (s.withMagnet x).sup = s.sup := rfl
@[simp] theorem withMagnet_cfg (x) : (s.withMagnet x).cfg = s.cfg := rfl
@[simp] theorem withMagnet_requests (x) : (s.withMagnet x).requests = s.requests := rfl
@[simp] theorem withMagnet_jobs (x) : (s.withMagnet x).jobs = s.jobs := rfl
@[simp] theorem withMagnet_pool (x) : (s.withMagnet x).pool = s.pool := rfl
@[simp] theorem withMagnet_sram (x) : (s.withMagnet x).sram = s.sram := rfl
@[simp] theorem withMagnet_planner (x) : (s.withMagnet x).planner = s.planner := rfl
@[simp] theorem withMagnet_seq (x) : (s.withMagnet x).seq = s.seq := rfl
@[simp] theorem withMagnet_magnet (x) : (s.withMagnet x).magnet = x := rfl
@[simp] theorem withMagnet_power (x) : (s.withMagnet x).power = s.power := rfl
@[simp] theorem withMagnet_remap (x) : (s.withMagnet x).remap = s.remap := rfl
@[simp] theorem withMagnet_stream (x) : (s.withMagnet x).stream = s.stream := rfl
@[simp] theorem withMagnet_link (x) : (s.withMagnet x).link = s.link := rfl
@[simp] theorem withMagnet_conditions (x) : (s.withMagnet x).conditions = s.conditions := rfl
@[simp] theorem withMagnet_emitted (x) : (s.withMagnet x).emitted = s.emitted := rfl
@[simp] theorem withMagnet_pending (x) : (s.withMagnet x).pending = s.pending := rfl
@[simp] theorem withMagnet_twice (x y) : (s.withMagnet x).withMagnet y = s.withMagnet y := rfl

@[simp] theorem withPower_sup (x) : (s.withPower x).sup = s.sup := rfl
@[simp] theorem withPower_cfg (x) : (s.withPower x).cfg = s.cfg := rfl
@[simp] theorem withPower_requests (x) : (s.withPower x).requests = s.requests := rfl
@[simp] theorem withPower_jobs (x) : (s.withPower x).jobs = s.jobs := rfl
@[simp] theorem withPower_pool (x) : (s.withPower x).pool = s.pool := rfl
@[simp] theorem withPower_sram (x) : (s.withPower x).sram = s.sram := rfl
@[simp] theorem withPower_planner (x) : (s.withPower x).planner = s.planner := rfl
@[simp] theorem withPower_seq (x) : (s.withPower x).seq = s.seq := rfl
@[simp] theorem withPower_magnet (x) : (s.withPower x).magnet = s.magnet := rfl
@[simp] theorem withPower_power (x) : (s.withPower x).power = x := rfl
@[simp] theorem withPower_remap (x) : (s.withPower x).remap = s.remap := rfl
@[simp] theorem withPower_stream (x) : (s.withPower x).stream = s.stream := rfl
@[simp] theorem withPower_link (x) : (s.withPower x).link = s.link := rfl
@[simp] theorem withPower_conditions (x) : (s.withPower x).conditions = s.conditions := rfl
@[simp] theorem withPower_emitted (x) : (s.withPower x).emitted = s.emitted := rfl
@[simp] theorem withPower_pending (x) : (s.withPower x).pending = s.pending := rfl
@[simp] theorem withPower_twice (x y) : (s.withPower x).withPower y = s.withPower y := rfl

@[simp] theorem withRemap_sup (x) : (s.withRemap x).sup = s.sup := rfl
@[simp] theorem withRemap_cfg (x) : (s.withRemap x).cfg = s.cfg := rfl
@[simp] theorem withRemap_requests (x) : (s.withRemap x).requests = s.requests := rfl
@[simp] theorem withRemap_jobs (x) : (s.withRemap x).jobs = s.jobs := rfl
@[simp] theorem withRemap_pool (x) : (s.withRemap x).pool = s.pool := rfl
@[simp] theorem withRemap_sram (x) : (s.withRemap x).sram = s.sram := rfl
@[simp] theorem withRemap_planner (x) : (s.withRemap x).planner = s.planner := rfl
@[simp] theorem withRemap_seq (x) : (s.withRemap x).seq = s.seq := rfl
@[simp] theorem withRemap_magnet (x) : (s.withRemap x).magnet = s.magnet := rfl
@[simp] theorem withRemap_power (x) : (s.withRemap x).power = s.power := rfl
@[simp] theorem withRemap_remap (x) : (s.withRemap x).remap = x := rfl
@[simp] theorem withRemap_stream (x) : (s.withRemap x).stream = s.stream := rfl
@[simp] theorem withRemap_link (x) : (s.withRemap x).link = s.link := rfl
@[simp] theorem withRemap_conditions (x) : (s.withRemap x).conditions = s.conditions := rfl
@[simp] theorem withRemap_emitted (x) : (s.withRemap x).emitted = s.emitted := rfl
@[simp] theorem withRemap_pending (x) : (s.withRemap x).pending = s.pending := rfl
@[simp] theorem withRemap_twice (x y) : (s.withRemap x).withRemap y = s.withRemap y := rfl

@[simp] theorem withStream_sup (x) : (s.withStream x).sup = s.sup := rfl
@[simp] theorem withStream_cfg (x) : (s.withStream x).cfg = s.cfg := rfl
@[simp] theorem withStream_requests (x) : (s.withStream x).requests = s.requests := rfl
@[simp] theorem withStream_jobs (x) : (s.withStream x).jobs = s.jobs := rfl
@[simp] theorem withStream_pool (x) : (s.withStream x).pool = s.pool := rfl
@[simp] theorem withStream_sram (x) : (s.withStream x).sram = s.sram := rfl
@[simp] theorem withStream_planner (x) : (s.withStream x).planner = s.planner := rfl
@[simp] theorem withStream_seq (x) : (s.withStream x).seq = s.seq := rfl
@[simp] theorem withStream_magnet (x) : (s.withStream x).magnet = s.magnet := rfl
@[simp] theorem withStream_power (x) : (s.withStream x).power = s.power := rfl
@[simp] theorem withStream_remap (x) : (s.withStream x).remap = s.remap := rfl
@[simp] theorem withStream_stream (x) : (s.withStream x).stream = x := rfl
@[simp] theorem withStream_link (x) : (s.withStream x).link = s.link := rfl
@[simp] theorem withStream_conditions (x) : (s.withStream x).conditions = s.conditions := rfl
@[simp] theorem withStream_emitted (x) : (s.withStream x).emitted = s.emitted := rfl
@[simp] theorem withStream_pending (x) : (s.withStream x).pending = s.pending := rfl
@[simp] theorem withStream_twice (x y) : (s.withStream x).withStream y = s.withStream y := rfl

@[simp] theorem withLink_sup (x) : (s.withLink x).sup = s.sup := rfl
@[simp] theorem withLink_cfg (x) : (s.withLink x).cfg = s.cfg := rfl
@[simp] theorem withLink_requests (x) : (s.withLink x).requests = s.requests := rfl
@[simp] theorem withLink_jobs (x) : (s.withLink x).jobs = s.jobs := rfl
@[simp] theorem withLink_pool (x) : (s.withLink x).pool = s.pool := rfl
@[simp] theorem withLink_sram (x) : (s.withLink x).sram = s.sram := rfl
@[simp] theorem withLink_planner (x) : (s.withLink x).planner = s.planner := rfl
@[simp] theorem withLink_seq (x) : (s.withLink x).seq = s.seq := rfl
@[simp] theorem withLink_magnet (x) : (s.withLink x).magnet = s.magnet := rfl
@[simp] theorem withLink_power (x) : (s.withLink x).power = s.power := rfl
@[simp] theorem withLink_remap (x) : (s.withLink x).remap = s.remap := rfl
@[simp] theorem withLink_stream (x) : (s.withLink x).stream = s.stream := rfl
@[simp] theorem withLink_link (x) : (s.withLink x).link = x := rfl
@[simp] theorem withLink_conditions (x) : (s.withLink x).conditions = s.conditions := rfl
@[simp] theorem withLink_emitted (x) : (s.withLink x).emitted = s.emitted := rfl
@[simp] theorem withLink_pending (x) : (s.withLink x).pending = s.pending := rfl
@[simp] theorem withLink_twice (x y) : (s.withLink x).withLink y = s.withLink y := rfl

@[simp] theorem withConditions_sup (x) : (s.withConditions x).sup = s.sup := rfl
@[simp] theorem withConditions_cfg (x) : (s.withConditions x).cfg = s.cfg := rfl
@[simp] theorem withConditions_requests (x) : (s.withConditions x).requests = s.requests := rfl
@[simp] theorem withConditions_jobs (x) : (s.withConditions x).jobs = s.jobs := rfl
@[simp] theorem withConditions_pool (x) : (s.withConditions x).pool = s.pool := rfl
@[simp] theorem withConditions_sram (x) : (s.withConditions x).sram = s.sram := rfl
@[simp] theorem withConditions_planner (x) : (s.withConditions x).planner = s.planner := rfl
@[simp] theorem withConditions_seq (x) : (s.withConditions x).seq = s.seq := rfl
@[simp] theorem withConditions_magnet (x) : (s.withConditions x).magnet = s.magnet := rfl
@[simp] theorem withConditions_power (x) : (s.withConditions x).power = s.power := rfl
@[simp] theorem withConditions_remap (x) : (s.withConditions x).remap = s.remap := rfl
@[simp] theorem withConditions_stream (x) : (s.withConditions x).stream = s.stream := rfl
@[simp] theorem withConditions_link (x) : (s.withConditions x).link = s.link := rfl
@[simp] theorem withConditions_conditions (x) : (s.withConditions x).conditions = x := rfl
@[simp] theorem withConditions_emitted (x) : (s.withConditions x).emitted = s.emitted := rfl
@[simp] theorem withConditions_pending (x) : (s.withConditions x).pending = s.pending := rfl
@[simp] theorem withConditions_twice (x y) : (s.withConditions x).withConditions y = s.withConditions y := rfl

@[simp] theorem withEmitted_sup (x) : (s.withEmitted x).sup = s.sup := rfl
@[simp] theorem withEmitted_cfg (x) : (s.withEmitted x).cfg = s.cfg := rfl
@[simp] theorem withEmitted_requests (x) : (s.withEmitted x).requests = s.requests := rfl
@[simp] theorem withEmitted_jobs (x) : (s.withEmitted x).jobs = s.jobs := rfl
@[simp] theorem withEmitted_pool (x) : (s.withEmitted x).pool = s.pool := rfl
@[simp] theorem withEmitted_sram (x) : (s.withEmitted x).sram = s.sram := rfl
@[simp] theorem withEmitted_planner (x) : (s.withEmitted x).planner = s.planner := rfl
@[simp] theorem withEmitted_seq (x) : (s.withEmitted x).seq = s.seq := rfl
@[simp] theorem withEmitted_magnet (x) : (s.withEmitted x).magnet = s.magnet := rfl
@[simp] theorem withEmitted_power (x) : (s.withEmitted x).power = s.power := rfl
@[simp] theorem withEmitted_remap (x) : (s.withEmitted x).remap = s.remap := rfl
@[simp] theorem withEmitted_stream (x) : (s.withEmitted x).stream = s.stream := rfl
@[simp] theorem withEmitted_link (x) : (s.withEmitted x).link = s.link := rfl
@[simp] theorem withEmitted_conditions (x) : (s.withEmitted x).conditions = s.conditions := rfl
@[simp] theorem withEmitted_emitted (x) : (s.withEmitted x).emitted = x := rfl
@[simp] theorem withEmitted_pending (x) : (s.withEmitted x).pending = s.pending := rfl
@[simp] theorem withEmitted_twice (x y) : (s.withEmitted x).withEmitted y = s.withEmitted y := rfl

@[simp] theorem withPending_sup (x) : (s.withPending x).sup = s.sup := rfl
@[simp] theorem withPending_cfg (x) : (s.withPending x).cfg = s.cfg := rfl
@[simp] theorem withPending_requests (x) : (s.withPending x).requests = s.requests := rfl
@[simp] theorem withPending_jobs (x) : (s.withPending x).jobs = s.jobs := rfl
@[simp] theorem withPending_pool (x) : (s.withPending x).pool = s.pool := rfl
@[simp] theorem withPending_sram (x) : (s.withPending x).sram = s.sram := rfl
@[simp] theorem withPending_planner (x) : (s.withPending x).planner = s.planner := rfl
@[simp] theorem withPending_seq (x) : (s.withPending x).seq = s.seq := rfl
@[simp] theorem withPending_magnet (x) : (s.withPending x).magnet = s.magnet := rfl
@[simp] theorem withPending_power (x) : (s.withPending x).power = s.power := rfl
@[simp] theorem withPending_remap (x) : (s.withPending x).remap = s.remap := rfl
@[simp] theorem withPending_stream (x) : (s.withPending x).stream = s.stream := rfl
@[simp] theorem withPending_link (x) : (s.withPending x).link = s.link := rfl
@[simp] theorem withPending_conditions (x) : (s.withPending x).conditions = s.conditions := rfl
@[simp] theorem withPending_emitted (x) : (s.withPending x).emitted = s.emitted := rfl
@[simp] theorem withPending_pending (x) : (s.withPending x).pending = x := rfl
@[simp] theorem withPending_twice (x y) : (s.withPending x).withPending y = s.withPending y := rfl

end Sys2Proof.Machine.State
end

