-- ==== Sys2Proof/Laws/Frames.lean ====
section
/-! SUPPORT. The frame of every shared operation and every effect of a command: the blocks of the state it leaves as they
are. Each lemma is a simp rule, so that no later proof unfolds an operation to learn what it does not touch. -/

namespace Sys2Proof.Machine

/-! ### Folds -/

/-- A fold of an operation that leaves a part of the state alone leaves it alone. -/
theorem foldl_keeps {α β : Type} (g : State → β) {f : State → α → State} (h : ∀ s a, g (f s a) = g s) (l : List α)
    (s : State) : g (l.foldl f s) = g s := by
  induction l generalizing s with
  | nil => rfl
  | cons a l ih => simp only [List.foldl_cons, ih, h]

@[simp] theorem foldl_sup {α : Type} {f : State → α → State} (l : List α) (s : State)
    (h : ∀ s a, (f s a).sup = s.sup) : (l.foldl f s).sup = s.sup := foldl_keeps State.sup h l s
@[simp] theorem foldl_cfg {α : Type} {f : State → α → State} (l : List α) (s : State)
    (h : ∀ s a, (f s a).cfg = s.cfg) : (l.foldl f s).cfg = s.cfg := foldl_keeps State.cfg h l s
@[simp] theorem foldl_requests {α : Type} {f : State → α → State} (l : List α) (s : State)
    (h : ∀ s a, (f s a).requests = s.requests) : (l.foldl f s).requests = s.requests := foldl_keeps State.requests h l s
@[simp] theorem foldl_jobs {α : Type} {f : State → α → State} (l : List α) (s : State)
    (h : ∀ s a, (f s a).jobs = s.jobs) : (l.foldl f s).jobs = s.jobs := foldl_keeps State.jobs h l s
@[simp] theorem foldl_pool {α : Type} {f : State → α → State} (l : List α) (s : State)
    (h : ∀ s a, (f s a).pool = s.pool) : (l.foldl f s).pool = s.pool := foldl_keeps State.pool h l s
@[simp] theorem foldl_sram {α : Type} {f : State → α → State} (l : List α) (s : State)
    (h : ∀ s a, (f s a).sram = s.sram) : (l.foldl f s).sram = s.sram := foldl_keeps State.sram h l s
@[simp] theorem foldl_planner {α : Type} {f : State → α → State} (l : List α) (s : State)
    (h : ∀ s a, (f s a).planner = s.planner) : (l.foldl f s).planner = s.planner := foldl_keeps State.planner h l s
@[simp] theorem foldl_seq {α : Type} {f : State → α → State} (l : List α) (s : State)
    (h : ∀ s a, (f s a).seq = s.seq) : (l.foldl f s).seq = s.seq := foldl_keeps State.seq h l s
@[simp] theorem foldl_magnet {α : Type} {f : State → α → State} (l : List α) (s : State)
    (h : ∀ s a, (f s a).magnet = s.magnet) : (l.foldl f s).magnet = s.magnet := foldl_keeps State.magnet h l s
@[simp] theorem foldl_power {α : Type} {f : State → α → State} (l : List α) (s : State)
    (h : ∀ s a, (f s a).power = s.power) : (l.foldl f s).power = s.power := foldl_keeps State.power h l s
@[simp] theorem foldl_remap {α : Type} {f : State → α → State} (l : List α) (s : State)
    (h : ∀ s a, (f s a).remap = s.remap) : (l.foldl f s).remap = s.remap := foldl_keeps State.remap h l s
@[simp] theorem foldl_stream {α : Type} {f : State → α → State} (l : List α) (s : State)
    (h : ∀ s a, (f s a).stream = s.stream) : (l.foldl f s).stream = s.stream := foldl_keeps State.stream h l s
@[simp] theorem foldl_link {α : Type} {f : State → α → State} (l : List α) (s : State)
    (h : ∀ s a, (f s a).link = s.link) : (l.foldl f s).link = s.link := foldl_keeps State.link h l s
@[simp] theorem foldl_conditions {α : Type} {f : State → α → State} (l : List α) (s : State)
    (h : ∀ s a, (f s a).conditions = s.conditions) : (l.foldl f s).conditions = s.conditions := foldl_keeps State.conditions h l s
@[simp] theorem foldl_emitted {α : Type} {f : State → α → State} (l : List α) (s : State)
    (h : ∀ s a, (f s a).emitted = s.emitted) : (l.foldl f s).emitted = s.emitted := foldl_keeps State.emitted h l s
@[simp] theorem foldl_pending {α : Type} {f : State → α → State} (l : List α) (s : State)
    (h : ∀ s a, (f s a).pending = s.pending) : (l.foldl f s).pending = s.pending := foldl_keeps State.pending h l s

/-! ### The shared state (Ops) -/

@[simp] theorem State.fillSlot_frame (slot bytes) (s : State) :
    (s.fillSlot slot bytes).sup = s.sup ∧ (s.fillSlot slot bytes).cfg = s.cfg ∧
    (s.fillSlot slot bytes).requests = s.requests ∧ (s.fillSlot slot bytes).jobs = s.jobs ∧
    (s.fillSlot slot bytes).pool = s.pool ∧ (s.fillSlot slot bytes).planner = s.planner ∧
    (s.fillSlot slot bytes).seq = s.seq ∧ (s.fillSlot slot bytes).magnet = s.magnet ∧
    (s.fillSlot slot bytes).power = s.power ∧ (s.fillSlot slot bytes).remap = s.remap ∧
    (s.fillSlot slot bytes).stream = s.stream ∧ (s.fillSlot slot bytes).link = s.link ∧
    (s.fillSlot slot bytes).conditions = s.conditions ∧ (s.fillSlot slot bytes).emitted = s.emitted ∧
    (s.fillSlot slot bytes).pending = s.pending := by
  simp [State.fillSlot]

@[simp] theorem State.returnSlots_frame (slots) (s : State) :
    (s.returnSlots slots).sup = s.sup ∧ (s.returnSlots slots).cfg = s.cfg ∧
    (s.returnSlots slots).requests = s.requests ∧ (s.returnSlots slots).jobs = s.jobs ∧
    (s.returnSlots slots).sram = s.sram ∧ (s.returnSlots slots).planner = s.planner ∧
    (s.returnSlots slots).seq = s.seq ∧ (s.returnSlots slots).magnet = s.magnet ∧
    (s.returnSlots slots).power = s.power ∧ (s.returnSlots slots).remap = s.remap ∧
    (s.returnSlots slots).stream = s.stream ∧ (s.returnSlots slots).link = s.link ∧
    (s.returnSlots slots).conditions = s.conditions ∧ (s.returnSlots slots).emitted = s.emitted ∧
    (s.returnSlots slots).pending = s.pending := by
  simp [State.returnSlots]

@[simp] theorem State.returnSlot_frame (slot) (s : State) :
    (s.returnSlot slot).sup = s.sup ∧ (s.returnSlot slot).cfg = s.cfg ∧ (s.returnSlot slot).requests = s.requests ∧
    (s.returnSlot slot).jobs = s.jobs ∧ (s.returnSlot slot).sram = s.sram ∧
    (s.returnSlot slot).planner = s.planner ∧ (s.returnSlot slot).seq = s.seq ∧
    (s.returnSlot slot).magnet = s.magnet ∧ (s.returnSlot slot).power = s.power ∧
    (s.returnSlot slot).remap = s.remap ∧ (s.returnSlot slot).stream = s.stream ∧
    (s.returnSlot slot).link = s.link ∧ (s.returnSlot slot).conditions = s.conditions ∧
    (s.returnSlot slot).emitted = s.emitted ∧ (s.returnSlot slot).pending = s.pending := by
  simp [State.returnSlot]

@[simp] theorem State.raise_frame (c) (s : State) :
    (s.raise c).sup = s.sup ∧ (s.raise c).cfg = s.cfg ∧ (s.raise c).requests = s.requests ∧
    (s.raise c).jobs = s.jobs ∧ (s.raise c).pool = s.pool ∧ (s.raise c).sram = s.sram ∧
    (s.raise c).planner = s.planner ∧ (s.raise c).seq = s.seq ∧ (s.raise c).magnet = s.magnet ∧
    (s.raise c).power = s.power ∧ (s.raise c).remap = s.remap ∧ (s.raise c).stream = s.stream ∧
    (s.raise c).link = s.link ∧ (s.raise c).emitted = s.emitted ∧ (s.raise c).pending = s.pending := by
  unfold State.raise
  split <;> simp

@[simp] theorem State.emit_frame (e) (s : State) :
    (s.emit e).sup = s.sup ∧ (s.emit e).cfg = s.cfg ∧ (s.emit e).requests = s.requests ∧ (s.emit e).jobs = s.jobs ∧
    (s.emit e).pool = s.pool ∧ (s.emit e).sram = s.sram ∧ (s.emit e).planner = s.planner ∧ (s.emit e).seq = s.seq ∧
    (s.emit e).magnet = s.magnet ∧ (s.emit e).power = s.power ∧ (s.emit e).remap = s.remap ∧
    (s.emit e).stream = s.stream ∧ (s.emit e).link = s.link ∧ (s.emit e).conditions = s.conditions ∧
    (s.emit e).pending = s.pending := by
  simp [State.emit]

@[simp] theorem State.compose_frame (r) (s : State) :
    (s.compose r).sup = s.sup ∧ (s.compose r).cfg = s.cfg ∧ (s.compose r).requests = s.requests ∧
    (s.compose r).jobs = s.jobs ∧ (s.compose r).pool = s.pool ∧ (s.compose r).sram = s.sram ∧
    (s.compose r).planner = s.planner ∧ (s.compose r).seq = s.seq ∧ (s.compose r).magnet = s.magnet ∧
    (s.compose r).power = s.power ∧ (s.compose r).remap = s.remap ∧ (s.compose r).stream = s.stream ∧
    (s.compose r).conditions = s.conditions ∧ (s.compose r).emitted = s.emitted ∧
    (s.compose r).pending = s.pending := by
  unfold State.compose
  split <;> simp

@[simp] theorem State.reply_frame (r) (s : State) :
    (s.reply r).sup = s.sup ∧ (s.reply r).cfg = s.cfg ∧ (s.reply r).requests = s.requests ∧
    (s.reply r).jobs = s.jobs ∧ (s.reply r).pool = s.pool ∧ (s.reply r).sram = s.sram ∧
    (s.reply r).planner = s.planner ∧ (s.reply r).seq = s.seq ∧ (s.reply r).magnet = s.magnet ∧
    (s.reply r).power = s.power ∧ (s.reply r).remap = s.remap ∧ (s.reply r).stream = s.stream ∧
    (s.reply r).conditions = s.conditions ∧ (s.reply r).emitted = s.emitted ∧ (s.reply r).pending = s.pending := by
  simp [State.reply]

@[simp] theorem State.noReply_frame (s : State) :
    (s.noReply).sup = s.sup ∧ (s.noReply).cfg = s.cfg ∧ (s.noReply).requests = s.requests ∧
    (s.noReply).jobs = s.jobs ∧ (s.noReply).pool = s.pool ∧ (s.noReply).sram = s.sram ∧
    (s.noReply).planner = s.planner ∧ (s.noReply).seq = s.seq ∧ (s.noReply).magnet = s.magnet ∧
    (s.noReply).power = s.power ∧ (s.noReply).remap = s.remap ∧ (s.noReply).stream = s.stream ∧
    (s.noReply).conditions = s.conditions ∧ (s.noReply).emitted = s.emitted ∧ (s.noReply).pending = s.pending := by
  simp [State.noReply]

@[simp] theorem State.setMount_frame (m) (s : State) :
    (s.setMount m).cfg = s.cfg ∧ (s.setMount m).requests = s.requests ∧ (s.setMount m).jobs = s.jobs ∧
    (s.setMount m).pool = s.pool ∧ (s.setMount m).sram = s.sram ∧ (s.setMount m).planner = s.planner ∧
    (s.setMount m).seq = s.seq ∧ (s.setMount m).magnet = s.magnet ∧ (s.setMount m).power = s.power ∧
    (s.setMount m).remap = s.remap ∧ (s.setMount m).stream = s.stream ∧ (s.setMount m).link = s.link ∧
    (s.setMount m).conditions = s.conditions ∧ (s.setMount m).emitted = s.emitted ∧
    (s.setMount m).pending = s.pending := by
  simp [State.setMount]


/-! ### Requests -/

@[simp] theorem State.updateRequest_frame (tag f) (s : State) :
    (s.updateRequest tag f).sup = s.sup ∧ (s.updateRequest tag f).cfg = s.cfg ∧
    (s.updateRequest tag f).jobs = s.jobs ∧ (s.updateRequest tag f).pool = s.pool ∧
    (s.updateRequest tag f).sram = s.sram ∧ (s.updateRequest tag f).planner = s.planner ∧
    (s.updateRequest tag f).seq = s.seq ∧ (s.updateRequest tag f).magnet = s.magnet ∧
    (s.updateRequest tag f).power = s.power ∧ (s.updateRequest tag f).remap = s.remap ∧
    (s.updateRequest tag f).stream = s.stream ∧ (s.updateRequest tag f).link = s.link ∧
    (s.updateRequest tag f).conditions = s.conditions ∧ (s.updateRequest tag f).emitted = s.emitted ∧
    (s.updateRequest tag f).pending = s.pending := by
  simp [State.updateRequest]

@[simp] theorem State.addRequest_frame (r) (s : State) :
    (s.addRequest r).sup = s.sup ∧ (s.addRequest r).cfg = s.cfg ∧ (s.addRequest r).jobs = s.jobs ∧
    (s.addRequest r).pool = s.pool ∧ (s.addRequest r).sram = s.sram ∧ (s.addRequest r).planner = s.planner ∧
    (s.addRequest r).seq = s.seq ∧ (s.addRequest r).magnet = s.magnet ∧ (s.addRequest r).power = s.power ∧
    (s.addRequest r).remap = s.remap ∧ (s.addRequest r).stream = s.stream ∧ (s.addRequest r).link = s.link ∧
    (s.addRequest r).conditions = s.conditions ∧ (s.addRequest r).emitted = s.emitted ∧
    (s.addRequest r).pending = s.pending := by
  simp [State.addRequest]

@[simp] theorem State.freeTag_frame (tag) (s : State) :
    (s.freeTag tag).sup = s.sup ∧ (s.freeTag tag).cfg = s.cfg ∧ (s.freeTag tag).jobs = s.jobs ∧
    (s.freeTag tag).pool = s.pool ∧ (s.freeTag tag).sram = s.sram ∧ (s.freeTag tag).planner = s.planner ∧
    (s.freeTag tag).seq = s.seq ∧ (s.freeTag tag).magnet = s.magnet ∧ (s.freeTag tag).power = s.power ∧
    (s.freeTag tag).remap = s.remap ∧ (s.freeTag tag).stream = s.stream ∧ (s.freeTag tag).link = s.link ∧
    (s.freeTag tag).conditions = s.conditions ∧ (s.freeTag tag).emitted = s.emitted ∧
    (s.freeTag tag).pending = s.pending := by
  simp [State.freeTag]

@[simp] theorem State.endRequest_frame (tag rec) (s : State) :
    (s.endRequest tag rec).sup = s.sup ∧ (s.endRequest tag rec).cfg = s.cfg ∧
    (s.endRequest tag rec).jobs = s.jobs ∧ (s.endRequest tag rec).pool = s.pool ∧
    (s.endRequest tag rec).sram = s.sram ∧ (s.endRequest tag rec).planner = s.planner ∧
    (s.endRequest tag rec).seq = s.seq ∧ (s.endRequest tag rec).magnet = s.magnet ∧
    (s.endRequest tag rec).power = s.power ∧ (s.endRequest tag rec).remap = s.remap ∧
    (s.endRequest tag rec).stream = s.stream ∧ (s.endRequest tag rec).conditions = s.conditions ∧
    (s.endRequest tag rec).emitted = s.emitted ∧ (s.endRequest tag rec).pending = s.pending := by
  unfold State.endRequest
  split <;> simp

@[simp] theorem State.tryEndRequest_frame (tag) (s : State) :
    (s.tryEndRequest tag).sup = s.sup ∧ (s.tryEndRequest tag).cfg = s.cfg ∧ (s.tryEndRequest tag).jobs = s.jobs ∧
    (s.tryEndRequest tag).pool = s.pool ∧ (s.tryEndRequest tag).sram = s.sram ∧
    (s.tryEndRequest tag).planner = s.planner ∧ (s.tryEndRequest tag).seq = s.seq ∧
    (s.tryEndRequest tag).magnet = s.magnet ∧ (s.tryEndRequest tag).power = s.power ∧
    (s.tryEndRequest tag).remap = s.remap ∧ (s.tryEndRequest tag).stream = s.stream ∧
    (s.tryEndRequest tag).conditions = s.conditions ∧ (s.tryEndRequest tag).emitted = s.emitted ∧
    (s.tryEndRequest tag).pending = s.pending := by
  unfold State.tryEndRequest
  repeat' split
  all_goals simp

@[simp] theorem State.abortRequest_frame (reason tag) (s : State) :
    (s.abortRequest reason tag).sup = s.sup ∧ (s.abortRequest reason tag).cfg = s.cfg ∧
    (s.abortRequest reason tag).jobs = s.jobs ∧ (s.abortRequest reason tag).pool = s.pool ∧
    (s.abortRequest reason tag).sram = s.sram ∧ (s.abortRequest reason tag).planner = s.planner ∧
    (s.abortRequest reason tag).seq = s.seq ∧ (s.abortRequest reason tag).magnet = s.magnet ∧
    (s.abortRequest reason tag).power = s.power ∧ (s.abortRequest reason tag).remap = s.remap ∧
    (s.abortRequest reason tag).stream = s.stream ∧ (s.abortRequest reason tag).conditions = s.conditions ∧
    (s.abortRequest reason tag).emitted = s.emitted ∧ (s.abortRequest reason tag).pending = s.pending := by
  simp [State.abortRequest]

@[simp] theorem State.abortRequests_frame (reason) (s : State) :
    (s.abortRequests reason).sup = s.sup ∧ (s.abortRequests reason).cfg = s.cfg ∧
    (s.abortRequests reason).jobs = s.jobs ∧ (s.abortRequests reason).pool = s.pool ∧
    (s.abortRequests reason).sram = s.sram ∧ (s.abortRequests reason).planner = s.planner ∧
    (s.abortRequests reason).seq = s.seq ∧ (s.abortRequests reason).magnet = s.magnet ∧
    (s.abortRequests reason).power = s.power ∧ (s.abortRequests reason).remap = s.remap ∧
    (s.abortRequests reason).stream = s.stream ∧ (s.abortRequests reason).conditions = s.conditions ∧
    (s.abortRequests reason).emitted = s.emitted ∧ (s.abortRequests reason).pending = s.pending := by
  simp [State.abortRequests]


/-! ### The flush and the inhibit set -/

@[simp] theorem State.updateFlush_frame (f) (s : State) :
    (s.updateFlush f).sup = s.sup ∧ (s.updateFlush f).cfg = s.cfg ∧ (s.updateFlush f).requests = s.requests ∧
    (s.updateFlush f).jobs = s.jobs ∧ (s.updateFlush f).pool = s.pool ∧ (s.updateFlush f).sram = s.sram ∧
    (s.updateFlush f).planner = s.planner ∧ (s.updateFlush f).seq = s.seq ∧ (s.updateFlush f).magnet = s.magnet ∧
    (s.updateFlush f).power = s.power ∧ (s.updateFlush f).stream = s.stream ∧ (s.updateFlush f).link = s.link ∧
    (s.updateFlush f).conditions = s.conditions ∧ (s.updateFlush f).emitted = s.emitted ∧
    (s.updateFlush f).pending = s.pending := by
  simp [State.updateFlush]

@[simp] theorem State.recordFlush_frame (k res) (s : State) :
    (s.recordFlush k res).sup = s.sup ∧ (s.recordFlush k res).cfg = s.cfg ∧ (s.recordFlush k res).jobs = s.jobs ∧
    (s.recordFlush k res).pool = s.pool ∧ (s.recordFlush k res).sram = s.sram ∧
    (s.recordFlush k res).planner = s.planner ∧ (s.recordFlush k res).seq = s.seq ∧
    (s.recordFlush k res).magnet = s.magnet ∧ (s.recordFlush k res).power = s.power ∧
    (s.recordFlush k res).stream = s.stream ∧ (s.recordFlush k res).link = s.link ∧
    (s.recordFlush k res).conditions = s.conditions ∧ (s.recordFlush k res).emitted = s.emitted ∧
    (s.recordFlush k res).pending = s.pending := by
  unfold State.recordFlush
  repeat' split
  all_goals simp

@[simp] theorem State.failSector_frame (reason k) (s : State) :
    (s.failSector reason k).sup = s.sup ∧ (s.failSector reason k).cfg = s.cfg ∧
    (s.failSector reason k).jobs = s.jobs ∧ (s.failSector reason k).sram = s.sram ∧
    (s.failSector reason k).planner = s.planner ∧ (s.failSector reason k).seq = s.seq ∧
    (s.failSector reason k).magnet = s.magnet ∧ (s.failSector reason k).power = s.power ∧
    (s.failSector reason k).stream = s.stream ∧ (s.failSector reason k).link = s.link ∧
    (s.failSector reason k).conditions = s.conditions ∧ (s.failSector reason k).emitted = s.emitted ∧
    (s.failSector reason k).pending = s.pending := by
  unfold State.failSector
  cases s.remap.flush with
  | none => simp only [and_self]
  | some f =>
    dsimp only
    generalize f.sectors[k]? = x
    cases x with
    | none => simp only [and_self]
    | some x => cases x <;> simp

@[simp] theorem State.withdrawFlushClaims_frame (s : State) :
    (s.withdrawFlushClaims).sup = s.sup ∧ (s.withdrawFlushClaims).cfg = s.cfg ∧
    (s.withdrawFlushClaims).jobs = s.jobs ∧ (s.withdrawFlushClaims).sram = s.sram ∧
    (s.withdrawFlushClaims).planner = s.planner ∧ (s.withdrawFlushClaims).seq = s.seq ∧
    (s.withdrawFlushClaims).magnet = s.magnet ∧ (s.withdrawFlushClaims).power = s.power ∧
    (s.withdrawFlushClaims).stream = s.stream ∧ (s.withdrawFlushClaims).link = s.link ∧
    (s.withdrawFlushClaims).conditions = s.conditions ∧ (s.withdrawFlushClaims).emitted = s.emitted ∧
    (s.withdrawFlushClaims).pending = s.pending := by
  unfold State.withdrawFlushClaims
  split <;> simp

@[simp] theorem State.failUncreated_frame (s : State) :
    (s.failUncreated).sup = s.sup ∧ (s.failUncreated).cfg = s.cfg ∧ (s.failUncreated).jobs = s.jobs ∧
    (s.failUncreated).sram = s.sram ∧ (s.failUncreated).planner = s.planner ∧ (s.failUncreated).seq = s.seq ∧
    (s.failUncreated).magnet = s.magnet ∧ (s.failUncreated).power = s.power ∧ (s.failUncreated).stream = s.stream ∧
    (s.failUncreated).link = s.link ∧ (s.failUncreated).conditions = s.conditions ∧
    (s.failUncreated).emitted = s.emitted ∧ (s.failUncreated).pending = s.pending := by
  simp [State.failUncreated]

@[simp] theorem State.nextFlushPass_frame (s : State) :
    (s.nextFlushPass).sup = s.sup ∧ (s.nextFlushPass).cfg = s.cfg ∧ (s.nextFlushPass).jobs = s.jobs ∧
    (s.nextFlushPass).sram = s.sram ∧ (s.nextFlushPass).planner = s.planner ∧ (s.nextFlushPass).seq = s.seq ∧
    (s.nextFlushPass).magnet = s.magnet ∧ (s.nextFlushPass).power = s.power ∧ (s.nextFlushPass).stream = s.stream ∧
    (s.nextFlushPass).link = s.link ∧ (s.nextFlushPass).conditions = s.conditions ∧
    (s.nextFlushPass).emitted = s.emitted ∧ (s.nextFlushPass).pending = s.pending := by
  unfold State.nextFlushPass
  repeat' split
  all_goals simp

@[simp] theorem State.setInhibit_frame (xs) (s : State) :
    (s.setInhibit xs).cfg = s.cfg ∧ (s.setInhibit xs).requests = s.requests ∧ (s.setInhibit xs).jobs = s.jobs ∧
    (s.setInhibit xs).pool = s.pool ∧ (s.setInhibit xs).sram = s.sram ∧ (s.setInhibit xs).planner = s.planner ∧
    (s.setInhibit xs).seq = s.seq ∧ (s.setInhibit xs).magnet = s.magnet ∧ (s.setInhibit xs).power = s.power ∧
    (s.setInhibit xs).remap = s.remap ∧ (s.setInhibit xs).stream = s.stream ∧ (s.setInhibit xs).link = s.link ∧
    (s.setInhibit xs).conditions = s.conditions ∧ (s.setInhibit xs).emitted = s.emitted ∧
    (s.setInhibit xs).pending = s.pending := by
  simp [State.setInhibit]

@[simp] theorem State.removeInhibit_frame (r) (s : State) :
    (s.removeInhibit r).cfg = s.cfg ∧ (s.removeInhibit r).requests = s.requests ∧
    (s.removeInhibit r).jobs = s.jobs ∧ (s.removeInhibit r).pool = s.pool ∧ (s.removeInhibit r).sram = s.sram ∧
    (s.removeInhibit r).planner = s.planner ∧ (s.removeInhibit r).seq = s.seq ∧
    (s.removeInhibit r).magnet = s.magnet ∧ (s.removeInhibit r).power = s.power ∧
    (s.removeInhibit r).remap = s.remap ∧ (s.removeInhibit r).stream = s.stream ∧
    (s.removeInhibit r).link = s.link ∧ (s.removeInhibit r).conditions = s.conditions ∧
    (s.removeInhibit r).emitted = s.emitted ∧ (s.removeInhibit r).pending = s.pending := by
  simp [State.removeInhibit]

@[simp] theorem State.startSecondStage_frame (s : State) :
    (s.startSecondStage).cfg = s.cfg ∧ (s.startSecondStage).requests = s.requests ∧
    (s.startSecondStage).jobs = s.jobs ∧ (s.startSecondStage).pool = s.pool ∧ (s.startSecondStage).sram = s.sram ∧
    (s.startSecondStage).planner = s.planner ∧ (s.startSecondStage).seq = s.seq ∧
    (s.startSecondStage).magnet = s.magnet ∧ (s.startSecondStage).power = s.power ∧
    (s.startSecondStage).remap = s.remap ∧ (s.startSecondStage).stream = s.stream ∧
    (s.startSecondStage).link = s.link ∧ (s.startSecondStage).conditions = s.conditions ∧
    (s.startSecondStage).emitted = s.emitted ∧ (s.startSecondStage).pending = s.pending := by
  simp [State.startSecondStage]

@[simp] theorem State.addInhibit_frame (r) (s : State) :
    (s.addInhibit r).cfg = s.cfg ∧ (s.addInhibit r).jobs = s.jobs ∧ (s.addInhibit r).sram = s.sram ∧
    (s.addInhibit r).planner = s.planner ∧ (s.addInhibit r).seq = s.seq ∧ (s.addInhibit r).magnet = s.magnet ∧
    (s.addInhibit r).power = s.power ∧ (s.addInhibit r).stream = s.stream ∧ (s.addInhibit r).link = s.link ∧
    (s.addInhibit r).conditions = s.conditions ∧ (s.addInhibit r).emitted = s.emitted ∧
    (s.addInhibit r).pending = s.pending := by
  unfold State.addInhibit
  repeat' split
  all_goals simp

@[simp] theorem State.dropMediaInhibits_frame (s : State) :
    (s.dropMediaInhibits).cfg = s.cfg ∧ (s.dropMediaInhibits).requests = s.requests ∧
    (s.dropMediaInhibits).jobs = s.jobs ∧ (s.dropMediaInhibits).pool = s.pool ∧
    (s.dropMediaInhibits).sram = s.sram ∧ (s.dropMediaInhibits).planner = s.planner ∧
    (s.dropMediaInhibits).seq = s.seq ∧ (s.dropMediaInhibits).magnet = s.magnet ∧
    (s.dropMediaInhibits).power = s.power ∧ (s.dropMediaInhibits).remap = s.remap ∧
    (s.dropMediaInhibits).stream = s.stream ∧ (s.dropMediaInhibits).link = s.link ∧
    (s.dropMediaInhibits).conditions = s.conditions ∧ (s.dropMediaInhibits).emitted = s.emitted ∧
    (s.dropMediaInhibits).pending = s.pending := by
  simp [State.dropMediaInhibits]

@[simp] theorem State.sampleTab_frame (s : State) :
    (s.sampleTab).cfg = s.cfg ∧ (s.sampleTab).jobs = s.jobs ∧ (s.sampleTab).sram = s.sram ∧
    (s.sampleTab).planner = s.planner ∧ (s.sampleTab).seq = s.seq ∧ (s.sampleTab).magnet = s.magnet ∧
    (s.sampleTab).power = s.power ∧ (s.sampleTab).stream = s.stream ∧ (s.sampleTab).link = s.link ∧
    (s.sampleTab).conditions = s.conditions ∧ (s.sampleTab).emitted = s.emitted ∧
    (s.sampleTab).pending = s.pending := by
  unfold State.sampleTab
  split <;> simp


/-! ### The calculator -/

@[simp] theorem State.recompute_frame (zone k) (s : State) :
    (s.recompute zone k).sup = s.sup ∧ (s.recompute zone k).cfg = s.cfg ∧
    (s.recompute zone k).requests = s.requests ∧ (s.recompute zone k).jobs = s.jobs ∧
    (s.recompute zone k).pool = s.pool ∧ (s.recompute zone k).sram = s.sram ∧
    (s.recompute zone k).planner = s.planner ∧ (s.recompute zone k).seq = s.seq ∧
    (s.recompute zone k).magnet = s.magnet ∧ (s.recompute zone k).remap = s.remap ∧
    (s.recompute zone k).stream = s.stream ∧ (s.recompute zone k).link = s.link ∧
    (s.recompute zone k).emitted = s.emitted ∧ (s.recompute zone k).pending = s.pending := by
  unfold State.recompute
  dsimp only
  repeat' split
  all_goals simp

@[simp] theorem State.powerAtRevolution_frame (zone) (s : State) :
    (s.powerAtRevolution zone).sup = s.sup ∧ (s.powerAtRevolution zone).cfg = s.cfg ∧
    (s.powerAtRevolution zone).requests = s.requests ∧ (s.powerAtRevolution zone).jobs = s.jobs ∧
    (s.powerAtRevolution zone).pool = s.pool ∧ (s.powerAtRevolution zone).sram = s.sram ∧
    (s.powerAtRevolution zone).planner = s.planner ∧ (s.powerAtRevolution zone).seq = s.seq ∧
    (s.powerAtRevolution zone).magnet = s.magnet ∧ (s.powerAtRevolution zone).remap = s.remap ∧
    (s.powerAtRevolution zone).stream = s.stream ∧ (s.powerAtRevolution zone).link = s.link ∧
    (s.powerAtRevolution zone).emitted = s.emitted ∧ (s.powerAtRevolution zone).pending = s.pending := by
  simp [State.powerAtRevolution]

@[simp] theorem State.powerAtMount_frame (s : State) :
    (s.powerAtMount).sup = s.sup ∧ (s.powerAtMount).cfg = s.cfg ∧ (s.powerAtMount).requests = s.requests ∧
    (s.powerAtMount).jobs = s.jobs ∧ (s.powerAtMount).pool = s.pool ∧ (s.powerAtMount).sram = s.sram ∧
    (s.powerAtMount).planner = s.planner ∧ (s.powerAtMount).seq = s.seq ∧ (s.powerAtMount).magnet = s.magnet ∧
    (s.powerAtMount).remap = s.remap ∧ (s.powerAtMount).stream = s.stream ∧ (s.powerAtMount).link = s.link ∧
    (s.powerAtMount).conditions = s.conditions ∧ (s.powerAtMount).emitted = s.emitted ∧
    (s.powerAtMount).pending = s.pending := by
  simp [State.powerAtMount]


/-! ### The remap table and the ring -/

@[simp] theorem State.mapFull_frame (s : State) :
    (s.mapFull).sup = s.sup ∧ (s.mapFull).cfg = s.cfg ∧ (s.mapFull).requests = s.requests ∧
    (s.mapFull).jobs = s.jobs ∧ (s.mapFull).pool = s.pool ∧ (s.mapFull).sram = s.sram ∧
    (s.mapFull).planner = s.planner ∧ (s.mapFull).seq = s.seq ∧ (s.mapFull).magnet = s.magnet ∧
    (s.mapFull).power = s.power ∧ (s.mapFull).stream = s.stream ∧ (s.mapFull).link = s.link ∧
    (s.mapFull).emitted = s.emitted ∧ (s.mapFull).pending = s.pending := by
  unfold State.mapFull
  split <;> simp

@[simp] theorem State.slotFill_frame (place sector slot) (s : State) :
    (s.slotFill place sector slot).sup = s.sup ∧ (s.slotFill place sector slot).cfg = s.cfg ∧
    (s.slotFill place sector slot).requests = s.requests ∧ (s.slotFill place sector slot).jobs = s.jobs ∧
    (s.slotFill place sector slot).pool = s.pool ∧ (s.slotFill place sector slot).sram = s.sram ∧
    (s.slotFill place sector slot).planner = s.planner ∧ (s.slotFill place sector slot).seq = s.seq ∧
    (s.slotFill place sector slot).magnet = s.magnet ∧ (s.slotFill place sector slot).power = s.power ∧
    (s.slotFill place sector slot).remap = s.remap ∧ (s.slotFill place sector slot).link = s.link ∧
    (s.slotFill place sector slot).conditions = s.conditions ∧ (s.slotFill place sector slot).emitted = s.emitted ∧
    (s.slotFill place sector slot).pending = s.pending := by
  simp [State.slotFill]

@[simp] theorem State.ringReturn_frame (slots) (s : State) :
    (s.ringReturn slots).sup = s.sup ∧ (s.ringReturn slots).cfg = s.cfg ∧
    (s.ringReturn slots).requests = s.requests ∧ (s.ringReturn slots).jobs = s.jobs ∧
    (s.ringReturn slots).pool = s.pool ∧ (s.ringReturn slots).sram = s.sram ∧
    (s.ringReturn slots).planner = s.planner ∧ (s.ringReturn slots).seq = s.seq ∧
    (s.ringReturn slots).magnet = s.magnet ∧ (s.ringReturn slots).power = s.power ∧
    (s.ringReturn slots).remap = s.remap ∧ (s.ringReturn slots).link = s.link ∧
    (s.ringReturn slots).conditions = s.conditions ∧ (s.ringReturn slots).emitted = s.emitted ∧
    (s.ringReturn slots).pending = s.pending := by
  simp [State.ringReturn]

@[simp] theorem State.freeFilled_frame (pick) (s : State) :
    (s.freeFilled pick).sup = s.sup ∧ (s.freeFilled pick).cfg = s.cfg ∧ (s.freeFilled pick).requests = s.requests ∧
    (s.freeFilled pick).jobs = s.jobs ∧ (s.freeFilled pick).pool = s.pool ∧ (s.freeFilled pick).sram = s.sram ∧
    (s.freeFilled pick).planner = s.planner ∧ (s.freeFilled pick).seq = s.seq ∧
    (s.freeFilled pick).magnet = s.magnet ∧ (s.freeFilled pick).power = s.power ∧
    (s.freeFilled pick).remap = s.remap ∧ (s.freeFilled pick).link = s.link ∧
    (s.freeFilled pick).conditions = s.conditions ∧ (s.freeFilled pick).emitted = s.emitted ∧
    (s.freeFilled pick).pending = s.pending := by
  simp [State.freeFilled]

@[simp] theorem State.updatePage_frame (place f) (s : State) :
    (s.updatePage place f).sup = s.sup ∧ (s.updatePage place f).cfg = s.cfg ∧
    (s.updatePage place f).requests = s.requests ∧ (s.updatePage place f).jobs = s.jobs ∧
    (s.updatePage place f).pool = s.pool ∧ (s.updatePage place f).sram = s.sram ∧
    (s.updatePage place f).planner = s.planner ∧ (s.updatePage place f).seq = s.seq ∧
    (s.updatePage place f).magnet = s.magnet ∧ (s.updatePage place f).power = s.power ∧
    (s.updatePage place f).remap = s.remap ∧ (s.updatePage place f).link = s.link ∧
    (s.updatePage place f).conditions = s.conditions ∧ (s.updatePage place f).emitted = s.emitted ∧
    (s.updatePage place f).pending = s.pending := by
  unfold State.updatePage
  split <;> simp

@[simp] theorem State.releaseRing_frame (s : State) :
    (s.releaseRing).sup = s.sup ∧ (s.releaseRing).cfg = s.cfg ∧ (s.releaseRing).requests = s.requests ∧
    (s.releaseRing).jobs = s.jobs ∧ (s.releaseRing).sram = s.sram ∧ (s.releaseRing).planner = s.planner ∧
    (s.releaseRing).seq = s.seq ∧ (s.releaseRing).magnet = s.magnet ∧ (s.releaseRing).power = s.power ∧
    (s.releaseRing).remap = s.remap ∧ (s.releaseRing).link = s.link ∧ (s.releaseRing).conditions = s.conditions ∧
    (s.releaseRing).emitted = s.emitted ∧ (s.releaseRing).pending = s.pending := by
  unfold State.releaseRing
  split <;> simp


/-! ### Jobs -/

@[simp] theorem State.updateJob_frame (id f) (s : State) :
    (s.updateJob id f).sup = s.sup ∧ (s.updateJob id f).cfg = s.cfg ∧ (s.updateJob id f).requests = s.requests ∧
    (s.updateJob id f).pool = s.pool ∧ (s.updateJob id f).sram = s.sram ∧ (s.updateJob id f).planner = s.planner ∧
    (s.updateJob id f).seq = s.seq ∧ (s.updateJob id f).magnet = s.magnet ∧ (s.updateJob id f).power = s.power ∧
    (s.updateJob id f).remap = s.remap ∧ (s.updateJob id f).stream = s.stream ∧ (s.updateJob id f).link = s.link ∧
    (s.updateJob id f).conditions = s.conditions ∧ (s.updateJob id f).emitted = s.emitted ∧
    (s.updateJob id f).pending = s.pending := by
  simp [State.updateJob]

@[simp] theorem State.recheck_frame (id) (s : State) :
    (s.recheck id).sup = s.sup ∧ (s.recheck id).cfg = s.cfg ∧ (s.recheck id).requests = s.requests ∧
    (s.recheck id).pool = s.pool ∧ (s.recheck id).sram = s.sram ∧ (s.recheck id).planner = s.planner ∧
    (s.recheck id).seq = s.seq ∧ (s.recheck id).magnet = s.magnet ∧ (s.recheck id).power = s.power ∧
    (s.recheck id).remap = s.remap ∧ (s.recheck id).stream = s.stream ∧ (s.recheck id).link = s.link ∧
    (s.recheck id).conditions = s.conditions ∧ (s.recheck id).emitted = s.emitted ∧
    (s.recheck id).pending = s.pending := by
  unfold State.recheck
  repeat' split
  all_goals simp

@[simp] theorem State.createJob_frame (except mk) (s : State) :
    (s.createJob except mk).sup = s.sup ∧ (s.createJob except mk).cfg = s.cfg ∧
    (s.createJob except mk).requests = s.requests ∧ (s.createJob except mk).pool = s.pool ∧
    (s.createJob except mk).sram = s.sram ∧ (s.createJob except mk).planner = s.planner ∧
    (s.createJob except mk).seq = s.seq ∧ (s.createJob except mk).magnet = s.magnet ∧
    (s.createJob except mk).power = s.power ∧ (s.createJob except mk).remap = s.remap ∧
    (s.createJob except mk).stream = s.stream ∧ (s.createJob except mk).link = s.link ∧
    (s.createJob except mk).conditions = s.conditions ∧ (s.createJob except mk).emitted = s.emitted ∧
    (s.createJob except mk).pending = s.pending := by
  unfold State.createJob
  split <;> simp

@[simp] theorem State.leaveTable_frame (id) (s : State) :
    (s.leaveTable id).sup = s.sup ∧ (s.leaveTable id).cfg = s.cfg ∧ (s.leaveTable id).requests = s.requests ∧
    (s.leaveTable id).pool = s.pool ∧ (s.leaveTable id).sram = s.sram ∧ (s.leaveTable id).magnet = s.magnet ∧
    (s.leaveTable id).power = s.power ∧ (s.leaveTable id).remap = s.remap ∧ (s.leaveTable id).stream = s.stream ∧
    (s.leaveTable id).link = s.link ∧ (s.leaveTable id).conditions = s.conditions ∧
    (s.leaveTable id).emitted = s.emitted ∧ (s.leaveTable id).pending = s.pending := by
  simp [State.leaveTable]

@[simp] theorem State.ownerEnd_frame (j e) (s : State) :
    (s.ownerEnd j e).sup = s.sup ∧ (s.ownerEnd j e).cfg = s.cfg ∧ (s.ownerEnd j e).jobs = s.jobs ∧
    (s.ownerEnd j e).pool = s.pool ∧ (s.ownerEnd j e).sram = s.sram ∧ (s.ownerEnd j e).planner = s.planner ∧
    (s.ownerEnd j e).seq = s.seq ∧ (s.ownerEnd j e).magnet = s.magnet ∧ (s.ownerEnd j e).power = s.power ∧
    (s.ownerEnd j e).remap = s.remap ∧ (s.ownerEnd j e).stream = s.stream ∧ (s.ownerEnd j e).emitted = s.emitted ∧
    (s.ownerEnd j e).pending = s.pending := by
  unfold State.ownerEnd
  repeat' split
  all_goals simp

@[simp] theorem State.recordLoad_frame (k res) (s : State) :
    (s.recordLoad k res).sup = s.sup ∧ (s.recordLoad k res).cfg = s.cfg ∧
    (s.recordLoad k res).requests = s.requests ∧ (s.recordLoad k res).jobs = s.jobs ∧
    (s.recordLoad k res).pool = s.pool ∧ (s.recordLoad k res).sram = s.sram ∧
    (s.recordLoad k res).planner = s.planner ∧ (s.recordLoad k res).seq = s.seq ∧
    (s.recordLoad k res).magnet = s.magnet ∧ (s.recordLoad k res).power = s.power ∧
    (s.recordLoad k res).stream = s.stream ∧ (s.recordLoad k res).link = s.link ∧
    (s.recordLoad k res).conditions = s.conditions ∧ (s.recordLoad k res).emitted = s.emitted ∧
    (s.recordLoad k res).pending = s.pending := by
  simp [State.recordLoad]

@[simp] theorem State.streamEnd_frame (j e) (s : State) :
    (s.streamEnd j e).sup = s.sup ∧ (s.streamEnd j e).cfg = s.cfg ∧ (s.streamEnd j e).requests = s.requests ∧
    (s.streamEnd j e).jobs = s.jobs ∧ (s.streamEnd j e).planner = s.planner ∧ (s.streamEnd j e).seq = s.seq ∧
    (s.streamEnd j e).magnet = s.magnet ∧ (s.streamEnd j e).power = s.power ∧ (s.streamEnd j e).remap = s.remap ∧
    (s.streamEnd j e).link = s.link ∧ (s.streamEnd j e).emitted = s.emitted ∧
    (s.streamEnd j e).pending = s.pending := by
  unfold State.streamEnd
  repeat' split
  all_goals simp

@[simp] theorem State.askRefresh_frame (j) (s : State) :
    (s.askRefresh j).sup = s.sup ∧ (s.askRefresh j).cfg = s.cfg ∧ (s.askRefresh j).requests = s.requests ∧
    (s.askRefresh j).planner = s.planner ∧ (s.askRefresh j).seq = s.seq ∧ (s.askRefresh j).magnet = s.magnet ∧
    (s.askRefresh j).power = s.power ∧ (s.askRefresh j).remap = s.remap ∧ (s.askRefresh j).stream = s.stream ∧
    (s.askRefresh j).link = s.link ∧ (s.askRefresh j).emitted = s.emitted ∧ (s.askRefresh j).pending = s.pending := by
  unfold State.askRefresh
  repeat' split
  all_goals simp

@[simp] theorem State.deliver_frame (j e) (s : State) :
    (s.deliver j e).sup = s.sup ∧ (s.deliver j e).cfg = s.cfg ∧ (s.deliver j e).requests = s.requests ∧
    (s.deliver j e).planner = s.planner ∧ (s.deliver j e).seq = s.seq ∧ (s.deliver j e).magnet = s.magnet ∧
    (s.deliver j e).power = s.power ∧ (s.deliver j e).emitted = s.emitted ∧ (s.deliver j e).pending = s.pending := by
  unfold State.deliver
  repeat' split
  all_goals simp

@[simp] theorem State.endRead_frame (j e) (s : State) :
    (s.endRead j e).sup = s.sup ∧ (s.endRead j e).cfg = s.cfg ∧ (s.endRead j e).magnet = s.magnet ∧
    (s.endRead j e).power = s.power ∧ (s.endRead j e).emitted = s.emitted ∧ (s.endRead j e).pending = s.pending := by
  simp [State.endRead]

@[simp] theorem State.copyFrom_frame (w h) (s : State) :
    (s.copyFrom w h).sup = s.sup ∧ (s.copyFrom w h).cfg = s.cfg ∧ (s.copyFrom w h).magnet = s.magnet ∧
    (s.copyFrom w h).power = s.power ∧ (s.copyFrom w h).emitted = s.emitted ∧
    (s.copyFrom w h).pending = s.pending := by
  unfold State.copyFrom
  split <;> simp

@[simp] theorem State.serveHeld_frame (w copies id) (s : State) :
    (s.serveHeld w copies id).sup = s.sup ∧ (s.serveHeld w copies id).cfg = s.cfg ∧
    (s.serveHeld w copies id).magnet = s.magnet ∧ (s.serveHeld w copies id).power = s.power ∧
    (s.serveHeld w copies id).emitted = s.emitted ∧ (s.serveHeld w copies id).pending = s.pending := by
  unfold State.serveHeld
  repeat' split
  all_goals simp

@[simp] theorem State.endWrite_frame (j e) (s : State) :
    (s.endWrite j e).sup = s.sup ∧ (s.endWrite j e).cfg = s.cfg ∧ (s.endWrite j e).magnet = s.magnet ∧
    (s.endWrite j e).power = s.power ∧ (s.endWrite j e).emitted = s.emitted ∧
    (s.endWrite j e).pending = s.pending := by
  unfold State.endWrite
  repeat' split
  all_goals simp

@[simp] theorem State.endJob_frame (j e) (s : State) :
    (s.endJob j e).sup = s.sup ∧ (s.endJob j e).cfg = s.cfg ∧ (s.endJob j e).magnet = s.magnet ∧
    (s.endJob j e).power = s.power ∧ (s.endJob j e).emitted = s.emitted ∧ (s.endJob j e).pending = s.pending := by
  unfold State.endJob
  split <;> simp

@[simp] theorem State.endJobId_frame (e id) (s : State) :
    (s.endJobId e id).sup = s.sup ∧ (s.endJobId e id).cfg = s.cfg ∧ (s.endJobId e id).magnet = s.magnet ∧
    (s.endJobId e id).power = s.power ∧ (s.endJobId e id).emitted = s.emitted ∧
    (s.endJobId e id).pending = s.pending := by
  unfold State.endJobId
  split <;> simp

@[simp] theorem State.endJobs_frame (pick e) (s : State) :
    (s.endJobs pick e).sup = s.sup ∧ (s.endJobs pick e).cfg = s.cfg ∧ (s.endJobs pick e).magnet = s.magnet ∧
    (s.endJobs pick e).power = s.power ∧ (s.endJobs pick e).emitted = s.emitted ∧
    (s.endJobs pick e).pending = s.pending := by
  simp [State.endJobs]

@[simp] theorem State.reassign_frame (id) (s : State) :
    (s.reassign id).sup = s.sup ∧ (s.reassign id).cfg = s.cfg ∧ (s.reassign id).magnet = s.magnet ∧
    (s.reassign id).power = s.power ∧ (s.reassign id).emitted = s.emitted ∧ (s.reassign id).pending = s.pending := by
  unfold State.reassign
  dsimp only
  repeat' split
  all_goals simp

@[simp] theorem State.discardJobs_frame (s : State) :
    (s.discardJobs).sup = s.sup ∧ (s.discardJobs).cfg = s.cfg ∧ (s.discardJobs).requests = s.requests ∧
    (s.discardJobs).sram = s.sram ∧ (s.discardJobs).planner = s.planner ∧ (s.discardJobs).seq = s.seq ∧
    (s.discardJobs).magnet = s.magnet ∧ (s.discardJobs).power = s.power ∧ (s.discardJobs).link = s.link ∧
    (s.discardJobs).conditions = s.conditions ∧ (s.discardJobs).emitted = s.emitted ∧
    (s.discardJobs).pending = s.pending := by
  simp [State.discardJobs]


/-! ### Claims (R40, R46) -/

@[simp] theorem State.flushTakes_frame (s : State) :
    (s.flushTakes).sup = s.sup ∧ (s.flushTakes).cfg = s.cfg ∧ (s.flushTakes).jobs = s.jobs ∧
    (s.flushTakes).planner = s.planner ∧ (s.flushTakes).seq = s.seq ∧ (s.flushTakes).magnet = s.magnet ∧
    (s.flushTakes).power = s.power ∧ (s.flushTakes).stream = s.stream ∧ (s.flushTakes).link = s.link ∧
    (s.flushTakes).conditions = s.conditions ∧ (s.flushTakes).emitted = s.emitted ∧
    (s.flushTakes).pending = s.pending := by
  unfold State.flushTakes
  dsimp only
  repeat' split
  all_goals simp

@[simp] theorem State.mapClaimMet_frame (s : State) :
    (s.mapClaimMet).sup = s.sup ∧ (s.mapClaimMet).cfg = s.cfg ∧ (s.mapClaimMet).requests = s.requests ∧
    (s.mapClaimMet).pool = s.pool ∧ (s.mapClaimMet).sram = s.sram ∧ (s.mapClaimMet).planner = s.planner ∧
    (s.mapClaimMet).seq = s.seq ∧ (s.mapClaimMet).magnet = s.magnet ∧ (s.mapClaimMet).power = s.power ∧
    (s.mapClaimMet).stream = s.stream ∧ (s.mapClaimMet).link = s.link ∧ (s.mapClaimMet).conditions = s.conditions ∧
    (s.mapClaimMet).emitted = s.emitted ∧ (s.mapClaimMet).pending = s.pending := by
  unfold State.mapClaimMet
  split <;> simp

@[simp] theorem State.streamClaimMet_frame (s : State) :
    (s.streamClaimMet).sup = s.sup ∧ (s.streamClaimMet).cfg = s.cfg ∧ (s.streamClaimMet).requests = s.requests ∧
    (s.streamClaimMet).pool = s.pool ∧ (s.streamClaimMet).sram = s.sram ∧ (s.streamClaimMet).planner = s.planner ∧
    (s.streamClaimMet).seq = s.seq ∧ (s.streamClaimMet).magnet = s.magnet ∧ (s.streamClaimMet).power = s.power ∧
    (s.streamClaimMet).remap = s.remap ∧ (s.streamClaimMet).link = s.link ∧
    (s.streamClaimMet).conditions = s.conditions ∧ (s.streamClaimMet).emitted = s.emitted ∧
    (s.streamClaimMet).pending = s.pending := by
  unfold State.streamClaimMet
  repeat' split
  all_goals simp

/-- What each of the three claims keeps where it is met, meeting them all keeps. -/
theorem State.meetWithin_keeps {P : State → Prop} (hf : ∀ s : State, P s → P s.flushTakes)
    (hs : ∀ s : State, P s → P s.streamClaimMet) (hm : ∀ s : State, P s → P s.mapClaimMet) :
    ∀ n s, P s → P (State.meetWithin n s)
  | 0, _, h => h
  | n + 1, s, h => by
      simp only [State.meetWithin, State.claimStep]
      repeat' split
      all_goals first
        | exact h
        | (rename_i heq; split at heq <;> [skip; split at heq <;> [skip; split at heq]]
           all_goals first
             | (obtain rfl := Option.some.inj heq
                exact State.meetWithin_keeps hf hs hm n _ (by first | exact hf _ h | exact hs _ h | exact hm _ h))
             | cases heq)

/-- What each of the three claims keeps where it is met, `meetClaims` keeps. -/
theorem State.meetClaims_keeps {P : State → Prop} (hf : ∀ s : State, P s → P s.flushTakes)
    (hs : ∀ s : State, P s → P s.streamClaimMet) (hm : ∀ s : State, P s → P s.mapClaimMet) (s : State) (h : P s) :
    P s.meetClaims := State.meetWithin_keeps hf hs hm claimBound s h

@[simp] theorem State.meetClaims_frame (s : State) :
    (s.meetClaims).sup = s.sup ∧ (s.meetClaims).cfg = s.cfg ∧ (s.meetClaims).planner = s.planner ∧
    (s.meetClaims).seq = s.seq ∧ (s.meetClaims).magnet = s.magnet ∧ (s.meetClaims).power = s.power ∧
    (s.meetClaims).link = s.link ∧ (s.meetClaims).conditions = s.conditions ∧
    (s.meetClaims).emitted = s.emitted ∧ (s.meetClaims).pending = s.pending := by
  refine State.meetClaims_keeps (P := fun t =>
    t.sup = s.sup ∧ t.cfg = s.cfg ∧ t.planner = s.planner ∧ t.seq = s.seq ∧ t.magnet = s.magnet ∧ t.power = s.power ∧
    t.link = s.link ∧ t.conditions = s.conditions ∧ t.emitted = s.emitted ∧ t.pending = s.pending)
    (fun t h => ?_) (fun t h => ?_) (fun t h => ?_) s (by simp)
  all_goals simpa using h

/-! ### The magnet -/

@[simp] theorem State.updateMountCtx_frame (f) (s : State) :
    (s.updateMountCtx f).cfg = s.cfg ∧ (s.updateMountCtx f).requests = s.requests ∧
    (s.updateMountCtx f).jobs = s.jobs ∧ (s.updateMountCtx f).pool = s.pool ∧ (s.updateMountCtx f).sram = s.sram ∧
    (s.updateMountCtx f).planner = s.planner ∧ (s.updateMountCtx f).seq = s.seq ∧
    (s.updateMountCtx f).magnet = s.magnet ∧ (s.updateMountCtx f).power = s.power ∧
    (s.updateMountCtx f).remap = s.remap ∧ (s.updateMountCtx f).stream = s.stream ∧
    (s.updateMountCtx f).link = s.link ∧ (s.updateMountCtx f).conditions = s.conditions ∧
    (s.updateMountCtx f).emitted = s.emitted ∧ (s.updateMountCtx f).pending = s.pending := by
  simp [State.updateMountCtx]

@[simp] theorem State.magnetLegEnds_frame (b) (s : State) :
    (s.magnetLegEnds b).cfg = s.cfg ∧ (s.magnetLegEnds b).requests = s.requests ∧
    (s.magnetLegEnds b).jobs = s.jobs ∧ (s.magnetLegEnds b).pool = s.pool ∧ (s.magnetLegEnds b).sram = s.sram ∧
    (s.magnetLegEnds b).planner = s.planner ∧ (s.magnetLegEnds b).seq = s.seq ∧
    (s.magnetLegEnds b).magnet = s.magnet ∧ (s.magnetLegEnds b).power = s.power ∧
    (s.magnetLegEnds b).remap = s.remap ∧ (s.magnetLegEnds b).stream = s.stream ∧
    (s.magnetLegEnds b).link = s.link ∧ (s.magnetLegEnds b).conditions = s.conditions ∧
    (s.magnetLegEnds b).emitted = s.emitted ∧ (s.magnetLegEnds b).pending = s.pending := by
  unfold State.magnetLegEnds
  split <;> simp

@[simp] theorem State.requestFlip_frame (p) (s : State) :
    (s.requestFlip p).sup = s.sup ∧ (s.requestFlip p).cfg = s.cfg ∧ (s.requestFlip p).requests = s.requests ∧
    (s.requestFlip p).jobs = s.jobs ∧ (s.requestFlip p).pool = s.pool ∧ (s.requestFlip p).sram = s.sram ∧
    (s.requestFlip p).planner = s.planner ∧ (s.requestFlip p).seq = s.seq ∧ (s.requestFlip p).power = s.power ∧
    (s.requestFlip p).remap = s.remap ∧ (s.requestFlip p).stream = s.stream ∧ (s.requestFlip p).link = s.link ∧
    (s.requestFlip p).conditions = s.conditions ∧ (s.requestFlip p).emitted = s.emitted ∧
    (s.requestFlip p).pending = s.pending := by
  unfold State.requestFlip
  split <;> simp

@[simp] theorem State.settleFlip_frame (p) (s : State) :
    (s.settleFlip p).cfg = s.cfg ∧ (s.settleFlip p).requests = s.requests ∧ (s.settleFlip p).jobs = s.jobs ∧
    (s.settleFlip p).pool = s.pool ∧ (s.settleFlip p).sram = s.sram ∧ (s.settleFlip p).planner = s.planner ∧
    (s.settleFlip p).seq = s.seq ∧ (s.settleFlip p).power = s.power ∧ (s.settleFlip p).remap = s.remap ∧
    (s.settleFlip p).stream = s.stream ∧ (s.settleFlip p).link = s.link ∧
    (s.settleFlip p).conditions = s.conditions ∧ (s.settleFlip p).emitted = s.emitted ∧
    (s.settleFlip p).pending = s.pending := by
  unfold State.settleFlip
  dsimp only
  repeat' split
  all_goals simp

@[simp] theorem State.senseReport_frame (v) (s : State) :
    (s.senseReport v).cfg = s.cfg ∧ (s.senseReport v).requests = s.requests ∧ (s.senseReport v).jobs = s.jobs ∧
    (s.senseReport v).pool = s.pool ∧ (s.senseReport v).sram = s.sram ∧ (s.senseReport v).planner = s.planner ∧
    (s.senseReport v).seq = s.seq ∧ (s.senseReport v).power = s.power ∧ (s.senseReport v).remap = s.remap ∧
    (s.senseReport v).stream = s.stream ∧ (s.senseReport v).link = s.link ∧
    (s.senseReport v).conditions = s.conditions ∧ (s.senseReport v).emitted = s.emitted ∧
    (s.senseReport v).pending = s.pending := by
  unfold State.senseReport
  dsimp only
  repeat' split
  all_goals simp

@[simp] theorem State.flipTimerExpires_frame (s : State) :
    (s.flipTimerExpires).cfg = s.cfg ∧ (s.flipTimerExpires).requests = s.requests ∧
    (s.flipTimerExpires).jobs = s.jobs ∧ (s.flipTimerExpires).pool = s.pool ∧ (s.flipTimerExpires).sram = s.sram ∧
    (s.flipTimerExpires).planner = s.planner ∧ (s.flipTimerExpires).seq = s.seq ∧
    (s.flipTimerExpires).power = s.power ∧ (s.flipTimerExpires).remap = s.remap ∧
    (s.flipTimerExpires).stream = s.stream ∧ (s.flipTimerExpires).link = s.link ∧
    (s.flipTimerExpires).conditions = s.conditions ∧ (s.flipTimerExpires).emitted = s.emitted ∧
    (s.flipTimerExpires).pending = s.pending := by
  unfold State.flipTimerExpires
  dsimp only
  repeat' split
  all_goals simp

@[simp] theorem State.settleTimeoutExpires_frame (s : State) :
    (s.settleTimeoutExpires).cfg = s.cfg ∧ (s.settleTimeoutExpires).jobs = s.jobs ∧
    (s.settleTimeoutExpires).sram = s.sram ∧ (s.settleTimeoutExpires).planner = s.planner ∧
    (s.settleTimeoutExpires).seq = s.seq ∧ (s.settleTimeoutExpires).power = s.power ∧
    (s.settleTimeoutExpires).stream = s.stream ∧ (s.settleTimeoutExpires).link = s.link ∧
    (s.settleTimeoutExpires).emitted = s.emitted ∧ (s.settleTimeoutExpires).pending = s.pending := by
  unfold State.settleTimeoutExpires
  split <;> simp


/-! ### The planner -/

@[simp] theorem State.flipWithSeek_frame (d) (s : State) :
    (s.flipWithSeek d).sup = s.sup ∧ (s.flipWithSeek d).cfg = s.cfg ∧ (s.flipWithSeek d).requests = s.requests ∧
    (s.flipWithSeek d).jobs = s.jobs ∧ (s.flipWithSeek d).pool = s.pool ∧ (s.flipWithSeek d).sram = s.sram ∧
    (s.flipWithSeek d).planner = s.planner ∧ (s.flipWithSeek d).seq = s.seq ∧ (s.flipWithSeek d).power = s.power ∧
    (s.flipWithSeek d).remap = s.remap ∧ (s.flipWithSeek d).stream = s.stream ∧ (s.flipWithSeek d).link = s.link ∧
    (s.flipWithSeek d).conditions = s.conditions ∧ (s.flipWithSeek d).emitted = s.emitted ∧
    (s.flipWithSeek d).pending = s.pending := by
  unfold State.flipWithSeek
  dsimp only
  repeat' split
  all_goals simp

@[simp] theorem State.issueSeek_frame (t) (s : State) :
    (s.issueSeek t).sup = s.sup ∧ (s.issueSeek t).cfg = s.cfg ∧ (s.issueSeek t).requests = s.requests ∧
    (s.issueSeek t).jobs = s.jobs ∧ (s.issueSeek t).pool = s.pool ∧ (s.issueSeek t).sram = s.sram ∧
    (s.issueSeek t).seq = s.seq ∧ (s.issueSeek t).power = s.power ∧ (s.issueSeek t).remap = s.remap ∧
    (s.issueSeek t).stream = s.stream ∧ (s.issueSeek t).link = s.link ∧ (s.issueSeek t).conditions = s.conditions ∧
    (s.issueSeek t).pending = s.pending := by
  simp [State.issueSeek]

@[simp] theorem State.seekChoice_frame (s : State) :
    (s.seekChoice).sup = s.sup ∧ (s.seekChoice).cfg = s.cfg ∧ (s.seekChoice).requests = s.requests ∧
    (s.seekChoice).jobs = s.jobs ∧ (s.seekChoice).pool = s.pool ∧ (s.seekChoice).sram = s.sram ∧
    (s.seekChoice).seq = s.seq ∧ (s.seekChoice).power = s.power ∧ (s.seekChoice).remap = s.remap ∧
    (s.seekChoice).stream = s.stream ∧ (s.seekChoice).link = s.link ∧ (s.seekChoice).conditions = s.conditions ∧
    (s.seekChoice).pending = s.pending := by
  unfold State.seekChoice
  dsimp only
  repeat' split
  all_goals simp

@[simp] theorem State.becomeUnpositioned_frame (s : State) :
    (s.becomeUnpositioned).sup = s.sup ∧ (s.becomeUnpositioned).cfg = s.cfg ∧
    (s.becomeUnpositioned).requests = s.requests ∧ (s.becomeUnpositioned).jobs = s.jobs ∧
    (s.becomeUnpositioned).pool = s.pool ∧ (s.becomeUnpositioned).sram = s.sram ∧
    (s.becomeUnpositioned).seq = s.seq ∧ (s.becomeUnpositioned).power = s.power ∧
    (s.becomeUnpositioned).remap = s.remap ∧ (s.becomeUnpositioned).stream = s.stream ∧
    (s.becomeUnpositioned).link = s.link ∧ (s.becomeUnpositioned).conditions = s.conditions ∧
    (s.becomeUnpositioned).pending = s.pending := by
  simp [State.becomeUnpositioned]

@[simp] theorem State.moveOn_frame (t) (s : State) :
    (s.moveOn t).sup = s.sup ∧ (s.moveOn t).cfg = s.cfg ∧ (s.moveOn t).requests = s.requests ∧
    (s.moveOn t).jobs = s.jobs ∧ (s.moveOn t).pool = s.pool ∧ (s.moveOn t).sram = s.sram ∧
    (s.moveOn t).seq = s.seq ∧ (s.moveOn t).power = s.power ∧ (s.moveOn t).remap = s.remap ∧
    (s.moveOn t).stream = s.stream ∧ (s.moveOn t).link = s.link ∧ (s.moveOn t).conditions = s.conditions ∧
    (s.moveOn t).pending = s.pending := by
  unfold State.moveOn
  dsimp only
  repeat' split
  all_goals simp

@[simp] theorem State.planRevolution_frame (t) (s : State) :
    (s.planRevolution t).sup = s.sup ∧ (s.planRevolution t).cfg = s.cfg ∧
    (s.planRevolution t).requests = s.requests ∧ (s.planRevolution t).jobs = s.jobs ∧
    (s.planRevolution t).pool = s.pool ∧ (s.planRevolution t).sram = s.sram ∧ (s.planRevolution t).seq = s.seq ∧
    (s.planRevolution t).power = s.power ∧ (s.planRevolution t).remap = s.remap ∧
    (s.planRevolution t).stream = s.stream ∧ (s.planRevolution t).link = s.link ∧
    (s.planRevolution t).conditions = s.conditions ∧ (s.planRevolution t).pending = s.pending := by
  unfold State.planRevolution
  dsimp only
  repeat' split
  all_goals simp

@[simp] theorem State.giveUpJob_frame (id) (s : State) :
    (s.giveUpJob id).sup = s.sup ∧ (s.giveUpJob id).cfg = s.cfg ∧ (s.giveUpJob id).magnet = s.magnet ∧
    (s.giveUpJob id).power = s.power ∧ (s.giveUpJob id).emitted = s.emitted ∧
    (s.giveUpJob id).pending = s.pending := by
  unfold State.giveUpJob
  repeat' split
  all_goals simp

/-- A supervisor apart from its inhibit set and the second stage that is due. -/
def Supervisor.rest (u : Supervisor) : Supervisor := { u with inhibit := [], secondStage := .idle }

/-- Two supervisors that agree apart from the inhibit set and the second stage agree in every other field. -/
theorem Supervisor.fields_of_rest {u v : Supervisor} (h : u.rest = v.rest) :
    u = { v with inhibit := u.inhibit, secondStage := u.secondStage } := by
  cases u
  cases v
  simpa [Supervisor.rest] using h

@[simp] theorem State.addInhibit_rest (r) (s : State) : (s.addInhibit r).sup.rest = s.sup.rest := by
  unfold State.addInhibit
  dsimp only
  repeat' split
  all_goals simp [Supervisor.rest, State.startSecondStage, State.setInhibit]

@[simp] theorem State.failWaitingFlush_frame (s : State) :
    (s.failWaitingFlush).sup = s.sup ∧ (s.failWaitingFlush).cfg = s.cfg ∧ (s.failWaitingFlush).jobs = s.jobs ∧
    (s.failWaitingFlush).sram = s.sram ∧ (s.failWaitingFlush).planner = s.planner ∧
    (s.failWaitingFlush).seq = s.seq ∧ (s.failWaitingFlush).magnet = s.magnet ∧
    (s.failWaitingFlush).power = s.power ∧ (s.failWaitingFlush).stream = s.stream ∧
    (s.failWaitingFlush).link = s.link ∧ (s.failWaitingFlush).conditions = s.conditions ∧
    (s.failWaitingFlush).emitted = s.emitted ∧ (s.failWaitingFlush).pending = s.pending := by
  unfold State.failWaitingFlush
  split <;> simp

@[simp] theorem State.secondStageEffect_frame (s : State) :
    (s.secondStageEffect).cfg = s.cfg ∧ (s.secondStageEffect).magnet = s.magnet ∧
    (s.secondStageEffect).power = s.power ∧ (s.secondStageEffect).emitted = s.emitted ∧
    (s.secondStageEffect).pending = s.pending := by
  unfold State.secondStageEffect
  dsimp only
  repeat' split
  all_goals simp

@[simp] theorem State.secondStageEffect_rest (s : State) : (s.secondStageEffect).sup.rest = s.sup.rest := by
  unfold State.secondStageEffect
  dsimp only
  split <;> simp [Supervisor.rest]

@[simp] theorem State.flushFailureEnters_frame (s : State) :
    (s.flushFailureEnters).cfg = s.cfg ∧ (s.flushFailureEnters).jobs = s.jobs ∧
    (s.flushFailureEnters).sram = s.sram ∧ (s.flushFailureEnters).planner = s.planner ∧
    (s.flushFailureEnters).seq = s.seq ∧ (s.flushFailureEnters).magnet = s.magnet ∧
    (s.flushFailureEnters).power = s.power ∧ (s.flushFailureEnters).stream = s.stream ∧
    (s.flushFailureEnters).link = s.link ∧ (s.flushFailureEnters).conditions = s.conditions ∧
    (s.flushFailureEnters).emitted = s.emitted ∧ (s.flushFailureEnters).pending = s.pending := by
  unfold State.flushFailureEnters
  split <;> simp

@[simp] theorem State.flushFailureEnters_rest (s : State) : (s.flushFailureEnters).sup.rest = s.sup.rest := by
  unfold State.flushFailureEnters
  split <;> simp

@[simp] theorem State.giveUp_frame (t) (s : State) :
    (s.giveUp t).cfg = s.cfg ∧ (s.giveUp t).power = s.power ∧ (s.giveUp t).pending = s.pending := by
  unfold State.giveUp
  dsimp only
  split <;> simp

@[simp] theorem State.giveUp_rest (t) (s : State) : (s.giveUp t).sup.rest = s.sup.rest := by
  unfold State.giveUp
  dsimp only
  split <;> simp [foldl_keeps fun s : State => s.sup.rest]

@[simp] theorem State.countFailure_frame (s : State) :
    (s.countFailure).cfg = s.cfg ∧ (s.countFailure).power = s.power ∧
    (s.countFailure).pending = s.pending := by
  unfold State.countFailure
  dsimp only
  repeat' split
  all_goals simp

@[simp] theorem State.countFailure_rest (s : State) : (s.countFailure).sup.rest = s.sup.rest := by
  unfold State.countFailure
  dsimp only
  repeat' split
  all_goals simp

@[simp] theorem State.recalibrationFails_frame (s : State) :
    (s.recalibrationFails).cfg = s.cfg ∧
    (s.recalibrationFails).power = s.power ∧ (s.recalibrationFails).pending = s.pending := by
  unfold State.recalibrationFails
  dsimp only
  repeat' split
  all_goals simp

@[simp] theorem State.recalibrationFails_rest (s : State) : (s.recalibrationFails).sup.rest = s.sup.rest := by
  unfold State.recalibrationFails
  dsimp only
  repeat' split
  all_goals simp

@[simp] theorem State.seekEnds_frame (s : State) :
    (s.seekEnds).sup = s.sup ∧ (s.seekEnds).cfg = s.cfg ∧ (s.seekEnds).requests = s.requests ∧
    (s.seekEnds).jobs = s.jobs ∧ (s.seekEnds).pool = s.pool ∧ (s.seekEnds).sram = s.sram ∧
    (s.seekEnds).seq = s.seq ∧ (s.seekEnds).power = s.power ∧ (s.seekEnds).remap = s.remap ∧
    (s.seekEnds).stream = s.stream ∧ (s.seekEnds).link = s.link ∧ (s.seekEnds).conditions = s.conditions ∧
    (s.seekEnds).pending = s.pending := by
  unfold State.seekEnds
  dsimp only
  repeat' split
  all_goals simp

@[simp] theorem State.seekFails_frame (s : State) :
    (s.seekFails).cfg = s.cfg ∧ (s.seekFails).power = s.power ∧
    (s.seekFails).pending = s.pending := by
  unfold State.seekFails
  split <;> simp

@[simp] theorem State.seekFails_rest (s : State) : (s.seekFails).sup.rest = s.sup.rest := by
  unfold State.seekFails
  split <;> simp


/-! ### The sequencer -/

@[simp] theorem State.cutOff_frame (s : State) :
    (s.cutOff).sup = s.sup ∧ (s.cutOff).cfg = s.cfg ∧ (s.cutOff).requests = s.requests ∧ (s.cutOff).pool = s.pool ∧
    (s.cutOff).sram = s.sram ∧ (s.cutOff).planner = s.planner ∧ (s.cutOff).magnet = s.magnet ∧
    (s.cutOff).power = s.power ∧ (s.cutOff).remap = s.remap ∧ (s.cutOff).stream = s.stream ∧
    (s.cutOff).link = s.link ∧ (s.cutOff).conditions = s.conditions ∧ (s.cutOff).emitted = s.emitted ∧
    (s.cutOff).pending = s.pending := by
  unfold State.cutOff
  repeat' split
  all_goals simp

@[simp] theorem State.setLatch_frame (s : State) :
    (s.setLatch).sup = s.sup ∧ (s.setLatch).cfg = s.cfg ∧ (s.setLatch).requests = s.requests ∧
    (s.setLatch).pool = s.pool ∧ (s.setLatch).sram = s.sram ∧ (s.setLatch).planner = s.planner ∧
    (s.setLatch).magnet = s.magnet ∧ (s.setLatch).power = s.power ∧ (s.setLatch).remap = s.remap ∧
    (s.setLatch).stream = s.stream ∧ (s.setLatch).link = s.link ∧ (s.setLatch).conditions = s.conditions ∧
    (s.setLatch).emitted = s.emitted ∧ (s.setLatch).pending = s.pending := by
  simp [State.setLatch]

@[simp] theorem State.offTrackOn_frame (t) (s : State) :
    (s.offTrackOn t).sup = s.sup ∧ (s.offTrackOn t).cfg = s.cfg ∧ (s.offTrackOn t).requests = s.requests ∧
    (s.offTrackOn t).pool = s.pool ∧ (s.offTrackOn t).sram = s.sram ∧ (s.offTrackOn t).power = s.power ∧
    (s.offTrackOn t).remap = s.remap ∧ (s.offTrackOn t).stream = s.stream ∧ (s.offTrackOn t).link = s.link ∧
    (s.offTrackOn t).pending = s.pending := by
  unfold State.offTrackOn
  split <;> simp

@[simp] theorem State.failedAttempt_frame (r b j) (s : State) :
    (s.failedAttempt r b j).sup = s.sup ∧ (s.failedAttempt r b j).cfg = s.cfg ∧
    (s.failedAttempt r b j).magnet = s.magnet ∧ (s.failedAttempt r b j).power = s.power ∧
    (s.failedAttempt r b j).emitted = s.emitted ∧ (s.failedAttempt r b j).pending = s.pending := by
  unfold State.failedAttempt
  dsimp only
  repeat' split
  all_goals simp

@[simp] theorem State.idFailure_frame (j) (s : State) :
    (s.idFailure j).sup = s.sup ∧ (s.idFailure j).cfg = s.cfg ∧ (s.idFailure j).magnet = s.magnet ∧
    (s.idFailure j).power = s.power ∧ (s.idFailure j).emitted = s.emitted ∧ (s.idFailure j).pending = s.pending := by
  unfold State.idFailure
  dsimp only
  repeat' split
  all_goals simp

@[simp] theorem State.checkFailed_frame (j) (s : State) :
    (s.checkFailed j).sup = s.sup ∧ (s.checkFailed j).cfg = s.cfg ∧ (s.checkFailed j).magnet = s.magnet ∧
    (s.checkFailed j).power = s.power ∧ (s.checkFailed j).emitted = s.emitted ∧
    (s.checkFailed j).pending = s.pending := by
  unfold State.checkFailed
  dsimp only
  repeat' split
  all_goals simp

@[simp] theorem State.sendData_frame (a) (s : State) :
    (s.sendData a).sup = s.sup ∧ (s.sendData a).cfg = s.cfg ∧ (s.sendData a).requests = s.requests ∧
    (s.sendData a).jobs = s.jobs ∧ (s.sendData a).pool = s.pool ∧ (s.sendData a).sram = s.sram ∧
    (s.sendData a).planner = s.planner ∧ (s.sendData a).seq = s.seq ∧ (s.sendData a).magnet = s.magnet ∧
    (s.sendData a).power = s.power ∧ (s.sendData a).remap = s.remap ∧ (s.sendData a).stream = s.stream ∧
    (s.sendData a).link = s.link ∧ (s.sendData a).conditions = s.conditions ∧
    (s.sendData a).pending = s.pending := by
  unfold State.sendData
  repeat' split
  all_goals simp

@[simp] theorem State.openPlanned_frame (a) (s : State) :
    (s.openPlanned a).sup = s.sup ∧ (s.openPlanned a).cfg = s.cfg ∧ (s.openPlanned a).requests = s.requests ∧
    (s.openPlanned a).pool = s.pool ∧ (s.openPlanned a).sram = s.sram ∧ (s.openPlanned a).planner = s.planner ∧
    (s.openPlanned a).magnet = s.magnet ∧ (s.openPlanned a).power = s.power ∧ (s.openPlanned a).remap = s.remap ∧
    (s.openPlanned a).stream = s.stream ∧ (s.openPlanned a).link = s.link ∧
    (s.openPlanned a).conditions = s.conditions ∧ (s.openPlanned a).pending = s.pending := by
  unfold State.openPlanned
  repeat' split
  all_goals simp

@[simp] theorem State.takeMark_frame (h t a) (s : State) :
    (s.takeMark h t a).sup = s.sup ∧ (s.takeMark h t a).cfg = s.cfg ∧ (s.takeMark h t a).power = s.power ∧
    (s.takeMark h t a).pending = s.pending := by
  unfold State.takeMark
  repeat' split
  all_goals simp

@[simp] theorem State.sectorMark_frame (h) (s : State) :
    (s.sectorMark h).sup = s.sup ∧ (s.sectorMark h).cfg = s.cfg ∧ (s.sectorMark h).power = s.power ∧
    (s.sectorMark h).pending = s.pending := by
  unfold State.sectorMark
  dsimp only
  repeat' split
  all_goals simp

@[simp] theorem State.completeRead_frame (j o) (s : State) :
    (s.completeRead j o).sup = s.sup ∧ (s.completeRead j o).cfg = s.cfg ∧ (s.completeRead j o).magnet = s.magnet ∧
    (s.completeRead j o).power = s.power ∧ (s.completeRead j o).emitted = s.emitted ∧
    (s.completeRead j o).pending = s.pending := by
  unfold State.completeRead
  repeat' split
  all_goals simp

@[simp] theorem State.complete_frame (a j o) (s : State) :
    (s.complete a j o).sup = s.sup ∧ (s.complete a j o).cfg = s.cfg ∧ (s.complete a j o).magnet = s.magnet ∧
    (s.complete a j o).power = s.power ∧ (s.complete a j o).emitted = s.emitted ∧
    (s.complete a j o).pending = s.pending := by
  unfold State.complete
  repeat' split
  all_goals simp

@[simp] theorem State.sectorEnd_frame (o) (s : State) :
    (s.sectorEnd o).sup = s.sup ∧ (s.sectorEnd o).cfg = s.cfg ∧ (s.sectorEnd o).magnet = s.magnet ∧
    (s.sectorEnd o).power = s.power ∧ (s.sectorEnd o).emitted = s.emitted ∧ (s.sectorEnd o).pending = s.pending := by
  unfold State.sectorEnd
  dsimp only
  repeat' split
  all_goals simp


/-! ### Pages -/

@[simp] theorem State.clearPage_frame (place) (s : State) :
    (s.clearPage place).sup = s.sup ∧ (s.clearPage place).cfg = s.cfg ∧ (s.clearPage place).magnet = s.magnet ∧
    (s.clearPage place).power = s.power ∧ (s.clearPage place).emitted = s.emitted ∧
    (s.clearPage place).pending = s.pending := by
  simp [State.clearPage]

@[simp] theorem State.fetchOff_frame (s : State) :
    (s.fetchOff).sup = s.sup ∧ (s.fetchOff).cfg = s.cfg ∧ (s.fetchOff).requests = s.requests ∧
    (s.fetchOff).jobs = s.jobs ∧ (s.fetchOff).pool = s.pool ∧ (s.fetchOff).sram = s.sram ∧
    (s.fetchOff).planner = s.planner ∧ (s.fetchOff).seq = s.seq ∧ (s.fetchOff).magnet = s.magnet ∧
    (s.fetchOff).power = s.power ∧ (s.fetchOff).remap = s.remap ∧ (s.fetchOff).link = s.link ∧
    (s.fetchOff).conditions = s.conditions ∧ (s.fetchOff).emitted = s.emitted ∧ (s.fetchOff).pending = s.pending := by
  simp [State.fetchOff]

@[simp] theorem State.abandon_frame (s : State) :
    (s.abandon).sup = s.sup ∧ (s.abandon).cfg = s.cfg ∧ (s.abandon).magnet = s.magnet ∧
    (s.abandon).power = s.power ∧ (s.abandon).emitted = s.emitted ∧ (s.abandon).pending = s.pending := by
  simp [State.abandon]

@[simp] theorem State.promote_frame (s : State) :
    (s.promote).sup = s.sup ∧ (s.promote).cfg = s.cfg ∧ (s.promote).requests = s.requests ∧
    (s.promote).pool = s.pool ∧ (s.promote).sram = s.sram ∧ (s.promote).planner = s.planner ∧
    (s.promote).seq = s.seq ∧ (s.promote).magnet = s.magnet ∧ (s.promote).power = s.power ∧
    (s.promote).remap = s.remap ∧ (s.promote).link = s.link ∧ (s.promote).conditions = s.conditions ∧
    (s.promote).emitted = s.emitted ∧ (s.promote).pending = s.pending := by
  unfold State.promote
  split <;> simp

@[simp] theorem State.finishPage_frame (s : State) :
    (s.finishPage).sup = s.sup ∧ (s.finishPage).cfg = s.cfg ∧ (s.finishPage).magnet = s.magnet ∧
    (s.finishPage).power = s.power ∧ (s.finishPage).pending = s.pending := by
  unfold State.finishPage
  split <;> simp

@[simp] theorem State.killPage_frame (s : State) :
    (s.killPage).sup = s.sup ∧ (s.killPage).cfg = s.cfg ∧ (s.killPage).magnet = s.magnet ∧
    (s.killPage).power = s.power ∧ (s.killPage).emitted = s.emitted ∧ (s.killPage).pending = s.pending := by
  unfold State.killPage
  split <;> simp

@[simp] theorem State.composePages_frame (o) (s : State) :
    (s.composePages o).sup = s.sup ∧ (s.composePages o).cfg = s.cfg ∧ (s.composePages o).requests = s.requests ∧
    (s.composePages o).jobs = s.jobs ∧ (s.composePages o).pool = s.pool ∧ (s.composePages o).sram = s.sram ∧
    (s.composePages o).planner = s.planner ∧ (s.composePages o).seq = s.seq ∧
    (s.composePages o).magnet = s.magnet ∧ (s.composePages o).power = s.power ∧
    (s.composePages o).remap = s.remap ∧ (s.composePages o).stream = s.stream ∧
    (s.composePages o).conditions = s.conditions ∧ (s.composePages o).emitted = s.emitted ∧
    (s.composePages o).pending = s.pending := by
  unfold State.composePages
  dsimp only
  repeat' split
  all_goals simp

@[simp] theorem State.abortPages_frame (o) (s : State) :
    (s.abortPages o).sup = s.sup ∧ (s.abortPages o).cfg = s.cfg ∧ (s.abortPages o).requests = s.requests ∧
    (s.abortPages o).jobs = s.jobs ∧ (s.abortPages o).pool = s.pool ∧ (s.abortPages o).sram = s.sram ∧
    (s.abortPages o).planner = s.planner ∧ (s.abortPages o).seq = s.seq ∧ (s.abortPages o).magnet = s.magnet ∧
    (s.abortPages o).power = s.power ∧ (s.abortPages o).remap = s.remap ∧
    (s.abortPages o).conditions = s.conditions ∧ (s.abortPages o).emitted = s.emitted ∧
    (s.abortPages o).pending = s.pending := by
  simp [State.abortPages]

@[simp] theorem State.stopPages_frame (s : State) :
    (s.stopPages).sup = s.sup ∧ (s.stopPages).cfg = s.cfg ∧ (s.stopPages).requests = s.requests ∧
    (s.stopPages).sram = s.sram ∧ (s.stopPages).planner = s.planner ∧ (s.stopPages).seq = s.seq ∧
    (s.stopPages).magnet = s.magnet ∧ (s.stopPages).power = s.power ∧ (s.stopPages).remap = s.remap ∧
    (s.stopPages).conditions = s.conditions ∧ (s.stopPages).emitted = s.emitted ∧
    (s.stopPages).pending = s.pending := by
  unfold State.stopPages
  split <;> simp

@[simp] theorem State.removeOrphans_frame (s : State) :
    (s.removeOrphans).sup = s.sup ∧ (s.removeOrphans).cfg = s.cfg ∧ (s.removeOrphans).magnet = s.magnet ∧
    (s.removeOrphans).power = s.power ∧ (s.removeOrphans).emitted = s.emitted ∧
    (s.removeOrphans).pending = s.pending := by
  simp [State.removeOrphans]

@[simp] theorem State.advanceRead_frame (s : State) :
    (s.advanceRead).sup = s.sup ∧ (s.advanceRead).cfg = s.cfg ∧ (s.advanceRead).magnet = s.magnet ∧
    (s.advanceRead).power = s.power ∧ (s.advanceRead).emitted = s.emitted ∧ (s.advanceRead).pending = s.pending := by
  unfold State.advanceRead
  dsimp only
  repeat' split
  all_goals simp

@[simp] theorem State.pageLine_frame (k line) (s : State) :
    (s.pageLine k line).sup = s.sup ∧ (s.pageLine k line).cfg = s.cfg ∧ (s.pageLine k line).magnet = s.magnet ∧
    (s.pageLine k line).power = s.power ∧ (s.pageLine k line).pending = s.pending := by
  unfold State.pageLine
  dsimp only
  repeat' split
  all_goals simp

@[simp] theorem State.playLine_frame (p) (s : State) :
    (s.playLine p).sup = s.sup ∧ (s.playLine p).cfg = s.cfg ∧ (s.playLine p).magnet = s.magnet ∧
    (s.playLine p).power = s.power ∧ (s.playLine p).pending = s.pending := by
  unfold State.playLine
  dsimp only
  repeat' split
  all_goals simp

@[simp] theorem State.lineRequest_frame (s : State) :
    (s.lineRequest).sup = s.sup ∧ (s.lineRequest).cfg = s.cfg ∧ (s.lineRequest).magnet = s.magnet ∧
    (s.lineRequest).power = s.power ∧ (s.lineRequest).pending = s.pending := by
  unfold State.lineRequest
  repeat' split
  all_goals simp

@[simp] theorem State.testStart_frame (s : State) :
    (s.testStart).sup = s.sup ∧ (s.testStart).cfg = s.cfg ∧ (s.testStart).requests = s.requests ∧
    (s.testStart).jobs = s.jobs ∧ (s.testStart).pool = s.pool ∧ (s.testStart).sram = s.sram ∧
    (s.testStart).planner = s.planner ∧ (s.testStart).seq = s.seq ∧ (s.testStart).magnet = s.magnet ∧
    (s.testStart).power = s.power ∧ (s.testStart).remap = s.remap ∧ (s.testStart).link = s.link ∧
    (s.testStart).conditions = s.conditions ∧ (s.testStart).emitted = s.emitted ∧
    (s.testStart).pending = s.pending := by
  unfold State.testStart
  split <;> simp


/-! ### The supervisor -/

@[simp] theorem State.enterSpinningDown_frame (s : State) :
    (s.enterSpinningDown).cfg = s.cfg ∧ (s.enterSpinningDown).requests = s.requests ∧
    (s.enterSpinningDown).jobs = s.jobs ∧ (s.enterSpinningDown).pool = s.pool ∧
    (s.enterSpinningDown).sram = s.sram ∧ (s.enterSpinningDown).power = s.power ∧
    (s.enterSpinningDown).remap = s.remap ∧ (s.enterSpinningDown).stream = s.stream ∧
    (s.enterSpinningDown).link = s.link ∧ (s.enterSpinningDown).conditions = s.conditions ∧
    (s.enterSpinningDown).emitted = s.emitted ∧ (s.enterSpinningDown).pending = s.pending := by
  simp [State.enterSpinningDown]

@[simp] theorem State.completeUnmount_frame (s : State) :
    (s.completeUnmount).cfg = s.cfg ∧ (s.completeUnmount).jobs = s.jobs ∧ (s.completeUnmount).pool = s.pool ∧
    (s.completeUnmount).sram = s.sram ∧ (s.completeUnmount).planner = s.planner ∧ (s.completeUnmount).seq = s.seq ∧
    (s.completeUnmount).magnet = s.magnet ∧ (s.completeUnmount).power = s.power ∧
    (s.completeUnmount).remap = s.remap ∧ (s.completeUnmount).stream = s.stream ∧
    (s.completeUnmount).conditions = s.conditions ∧ (s.completeUnmount).pending = s.pending := by
  unfold State.completeUnmount
  repeat' split
  all_goals simp

@[simp] theorem State.reachLoaded_frame (s : State) :
    (s.reachLoaded).cfg = s.cfg ∧ (s.reachLoaded).jobs = s.jobs ∧ (s.reachLoaded).pool = s.pool ∧
    (s.reachLoaded).sram = s.sram ∧ (s.reachLoaded).planner = s.planner ∧ (s.reachLoaded).seq = s.seq ∧
    (s.reachLoaded).magnet = s.magnet ∧ (s.reachLoaded).power = s.power ∧ (s.reachLoaded).stream = s.stream ∧
    (s.reachLoaded).conditions = s.conditions ∧ (s.reachLoaded).pending = s.pending := by
  simp [State.reachLoaded]

@[simp] theorem State.spinUpFails_frame (s : State) :
    (s.spinUpFails).cfg = s.cfg ∧ (s.spinUpFails).jobs = s.jobs ∧ (s.spinUpFails).pool = s.pool ∧
    (s.spinUpFails).sram = s.sram ∧ (s.spinUpFails).power = s.power ∧ (s.spinUpFails).remap = s.remap ∧
    (s.spinUpFails).stream = s.stream ∧ (s.spinUpFails).emitted = s.emitted ∧ (s.spinUpFails).pending = s.pending := by
  unfold State.spinUpFails
  dsimp only
  repeat' split
  all_goals simp

@[simp] theorem State.dropContexts_frame (s : State) :
    (s.dropContexts).cfg = s.cfg ∧ (s.dropContexts).requests = s.requests ∧ (s.dropContexts).jobs = s.jobs ∧
    (s.dropContexts).pool = s.pool ∧ (s.dropContexts).sram = s.sram ∧ (s.dropContexts).planner = s.planner ∧
    (s.dropContexts).seq = s.seq ∧ (s.dropContexts).magnet = s.magnet ∧ (s.dropContexts).power = s.power ∧
    (s.dropContexts).remap = s.remap ∧ (s.dropContexts).stream = s.stream ∧ (s.dropContexts).link = s.link ∧
    (s.dropContexts).conditions = s.conditions ∧ (s.dropContexts).emitted = s.emitted ∧
    (s.dropContexts).pending = s.pending := by
  simp [State.dropContexts]

@[simp] theorem State.faultSpinDown_frame (f) (s : State) :
    (s.faultSpinDown f).cfg = s.cfg ∧ (s.faultSpinDown f).sram = s.sram ∧ (s.faultSpinDown f).power = s.power ∧
    (s.faultSpinDown f).emitted = s.emitted ∧ (s.faultSpinDown f).pending = s.pending := by
  simp [State.faultSpinDown]

@[simp] theorem State.removeMedium_frame (s : State) :
    (s.removeMedium).cfg = s.cfg ∧ (s.removeMedium).sram = s.sram ∧ (s.removeMedium).power = s.power ∧
    (s.removeMedium).emitted = s.emitted ∧ (s.removeMedium).pending = s.pending := by
  simp [State.removeMedium]

@[simp] theorem State.createMapReads_frame (s : State) :
    (s.createMapReads).sup = s.sup ∧ (s.createMapReads).cfg = s.cfg ∧ (s.createMapReads).requests = s.requests ∧
    (s.createMapReads).pool = s.pool ∧ (s.createMapReads).sram = s.sram ∧ (s.createMapReads).planner = s.planner ∧
    (s.createMapReads).seq = s.seq ∧ (s.createMapReads).magnet = s.magnet ∧ (s.createMapReads).power = s.power ∧
    (s.createMapReads).remap = s.remap ∧ (s.createMapReads).stream = s.stream ∧ (s.createMapReads).link = s.link ∧
    (s.createMapReads).conditions = s.conditions ∧ (s.createMapReads).emitted = s.emitted ∧
    (s.createMapReads).pending = s.pending := by
  simp [State.createMapReads]

@[simp] theorem State.startMapping_frame (s : State) :
    (s.startMapping).cfg = s.cfg ∧ (s.startMapping).requests = s.requests ∧ (s.startMapping).pool = s.pool ∧
    (s.startMapping).sram = s.sram ∧ (s.startMapping).seq = s.seq ∧ (s.startMapping).power = s.power ∧
    (s.startMapping).stream = s.stream ∧ (s.startMapping).link = s.link ∧
    (s.startMapping).conditions = s.conditions ∧ (s.startMapping).pending = s.pending := by
  simp [State.startMapping]

@[simp] theorem State.mapLegEnds_frame (b) (s : State) :
    (s.mapLegEnds b).cfg = s.cfg ∧ (s.mapLegEnds b).requests = s.requests ∧ (s.mapLegEnds b).jobs = s.jobs ∧
    (s.mapLegEnds b).pool = s.pool ∧ (s.mapLegEnds b).sram = s.sram ∧ (s.mapLegEnds b).planner = s.planner ∧
    (s.mapLegEnds b).seq = s.seq ∧ (s.mapLegEnds b).magnet = s.magnet ∧ (s.mapLegEnds b).power = s.power ∧
    (s.mapLegEnds b).remap = s.remap ∧ (s.mapLegEnds b).stream = s.stream ∧ (s.mapLegEnds b).link = s.link ∧
    (s.mapLegEnds b).conditions = s.conditions ∧ (s.mapLegEnds b).emitted = s.emitted ∧
    (s.mapLegEnds b).pending = s.pending := by
  simp [State.mapLegEnds]

@[simp] theorem State.decideLoad_frame (rs) (s : State) :
    (s.decideLoad rs).cfg = s.cfg ∧ (s.decideLoad rs).jobs = s.jobs ∧ (s.decideLoad rs).sram = s.sram ∧
    (s.decideLoad rs).planner = s.planner ∧ (s.decideLoad rs).seq = s.seq ∧ (s.decideLoad rs).magnet = s.magnet ∧
    (s.decideLoad rs).power = s.power ∧ (s.decideLoad rs).stream = s.stream ∧ (s.decideLoad rs).link = s.link ∧
    (s.decideLoad rs).conditions = s.conditions ∧ (s.decideLoad rs).emitted = s.emitted ∧
    (s.decideLoad rs).pending = s.pending := by
  unfold State.decideLoad
  split <;> simp

@[simp] theorem State.completeMount_frame (m) (s : State) :
    (s.completeMount m).cfg = s.cfg ∧ (s.completeMount m).jobs = s.jobs ∧ (s.completeMount m).sram = s.sram ∧
    (s.completeMount m).planner = s.planner ∧ (s.completeMount m).seq = s.seq ∧
    (s.completeMount m).magnet = s.magnet ∧ (s.completeMount m).stream = s.stream ∧
    (s.completeMount m).conditions = s.conditions ∧ (s.completeMount m).emitted = s.emitted ∧
    (s.completeMount m).pending = s.pending := by
  simp [State.completeMount]

@[simp] theorem State.beginUnmount_frame (tag eject) (s : State) :
    (s.beginUnmount tag eject).cfg = s.cfg ∧ (s.beginUnmount tag eject).jobs = s.jobs ∧
    (s.beginUnmount tag eject).pool = s.pool ∧ (s.beginUnmount tag eject).sram = s.sram ∧
    (s.beginUnmount tag eject).planner = s.planner ∧ (s.beginUnmount tag eject).seq = s.seq ∧
    (s.beginUnmount tag eject).magnet = s.magnet ∧ (s.beginUnmount tag eject).power = s.power ∧
    (s.beginUnmount tag eject).remap = s.remap ∧ (s.beginUnmount tag eject).stream = s.stream ∧
    (s.beginUnmount tag eject).link = s.link ∧ (s.beginUnmount tag eject).conditions = s.conditions ∧
    (s.beginUnmount tag eject).emitted = s.emitted ∧ (s.beginUnmount tag eject).pending = s.pending := by
  simp [State.beginUnmount]

@[simp] theorem State.beginFlush_frame (owner) (s : State) :
    (s.beginFlush owner).sup = s.sup ∧ (s.beginFlush owner).cfg = s.cfg ∧
    (s.beginFlush owner).requests = s.requests ∧ (s.beginFlush owner).jobs = s.jobs ∧
    (s.beginFlush owner).pool = s.pool ∧ (s.beginFlush owner).sram = s.sram ∧
    (s.beginFlush owner).planner = s.planner ∧ (s.beginFlush owner).seq = s.seq ∧
    (s.beginFlush owner).magnet = s.magnet ∧ (s.beginFlush owner).power = s.power ∧
    (s.beginFlush owner).stream = s.stream ∧ (s.beginFlush owner).link = s.link ∧
    (s.beginFlush owner).conditions = s.conditions ∧ (s.beginFlush owner).emitted = s.emitted ∧
    (s.beginFlush owner).pending = s.pending := by
  simp [State.beginFlush]

@[simp] theorem State.unmountResult_frame (r) (s : State) :
    (s.unmountResult r).cfg = s.cfg ∧ (s.unmountResult r).requests = s.requests ∧
    (s.unmountResult r).jobs = s.jobs ∧ (s.unmountResult r).pool = s.pool ∧ (s.unmountResult r).sram = s.sram ∧
    (s.unmountResult r).planner = s.planner ∧ (s.unmountResult r).seq = s.seq ∧
    (s.unmountResult r).magnet = s.magnet ∧ (s.unmountResult r).power = s.power ∧
    (s.unmountResult r).remap = s.remap ∧ (s.unmountResult r).stream = s.stream ∧
    (s.unmountResult r).link = s.link ∧ (s.unmountResult r).conditions = s.conditions ∧
    (s.unmountResult r).emitted = s.emitted ∧ (s.unmountResult r).pending = s.pending := by
  simp [State.unmountResult]

@[simp] theorem State.decideDrained_frame (s : State) :
    (s.decideDrained).cfg = s.cfg ∧ (s.decideDrained).requests = s.requests ∧ (s.decideDrained).jobs = s.jobs ∧
    (s.decideDrained).pool = s.pool ∧ (s.decideDrained).sram = s.sram ∧ (s.decideDrained).power = s.power ∧
    (s.decideDrained).stream = s.stream ∧ (s.decideDrained).link = s.link ∧
    (s.decideDrained).conditions = s.conditions ∧ (s.decideDrained).emitted = s.emitted ∧
    (s.decideDrained).pending = s.pending := by
  unfold State.decideDrained
  repeat' split
  all_goals simp

@[simp] theorem State.softResetMount_frame (s : State) :
    (s.softResetMount).cfg = s.cfg ∧ (s.softResetMount).requests = s.requests ∧ (s.softResetMount).jobs = s.jobs ∧
    (s.softResetMount).pool = s.pool ∧ (s.softResetMount).sram = s.sram ∧ (s.softResetMount).power = s.power ∧
    (s.softResetMount).remap = s.remap ∧ (s.softResetMount).stream = s.stream ∧ (s.softResetMount).link = s.link ∧
    (s.softResetMount).conditions = s.conditions ∧ (s.softResetMount).emitted = s.emitted ∧
    (s.softResetMount).pending = s.pending := by
  unfold State.softResetMount
  dsimp only
  repeat' split
  all_goals simp

@[simp] theorem State.softReset_frame (s : State) :
    (s.softReset).cfg = s.cfg ∧ (s.softReset).sram = s.sram ∧ (s.softReset).link = s.link ∧
    (s.softReset).conditions = s.conditions ∧ (s.softReset).emitted = s.emitted ∧
    (s.softReset).pending = s.pending := by
  simp [State.softReset]


/-! ### The internal steps -/

@[simp] theorem State.cancelEffect_frame (tag) (s : State) :
    (s.cancelEffect tag).sup = s.sup ∧ (s.cancelEffect tag).cfg = s.cfg ∧ (s.cancelEffect tag).magnet = s.magnet ∧
    (s.cancelEffect tag).power = s.power ∧ (s.cancelEffect tag).emitted = s.emitted ∧
    (s.cancelEffect tag).pending = s.pending := by
  simp [State.cancelEffect]

@[simp] theorem State.loadEffect_frame (s : State) :
    (s.loadEffect).cfg = s.cfg ∧ (s.loadEffect).jobs = s.jobs ∧ (s.loadEffect).sram = s.sram ∧
    (s.loadEffect).planner = s.planner ∧ (s.loadEffect).seq = s.seq ∧ (s.loadEffect).magnet = s.magnet ∧
    (s.loadEffect).power = s.power ∧ (s.loadEffect).stream = s.stream ∧ (s.loadEffect).link = s.link ∧
    (s.loadEffect).conditions = s.conditions ∧ (s.loadEffect).emitted = s.emitted ∧
    (s.loadEffect).pending = s.pending := by
  unfold State.loadEffect
  split <;> simp

@[simp] theorem State.mountEffect_frame (s : State) :
    (s.mountEffect).cfg = s.cfg ∧ (s.mountEffect).jobs = s.jobs ∧ (s.mountEffect).sram = s.sram ∧
    (s.mountEffect).planner = s.planner ∧ (s.mountEffect).seq = s.seq ∧ (s.mountEffect).magnet = s.magnet ∧
    (s.mountEffect).stream = s.stream ∧ (s.mountEffect).conditions = s.conditions ∧
    (s.mountEffect).emitted = s.emitted ∧ (s.mountEffect).pending = s.pending := by
  unfold State.mountEffect
  split <;> simp

@[simp] theorem State.endFlush_frame (f r) (s : State) :
    (s.endFlush f r).cfg = s.cfg ∧ (s.endFlush f r).jobs = s.jobs ∧ (s.endFlush f r).pool = s.pool ∧
    (s.endFlush f r).sram = s.sram ∧ (s.endFlush f r).power = s.power ∧ (s.endFlush f r).stream = s.stream ∧
    (s.endFlush f r).conditions = s.conditions ∧ (s.endFlush f r).emitted = s.emitted ∧
    (s.endFlush f r).pending = s.pending := by
  unfold State.endFlush
  repeat' split
  all_goals simp

@[simp] theorem State.flushSucceedsEffect_frame (s : State) :
    (s.flushSucceedsEffect).cfg = s.cfg ∧ (s.flushSucceedsEffect).jobs = s.jobs ∧
    (s.flushSucceedsEffect).pool = s.pool ∧ (s.flushSucceedsEffect).sram = s.sram ∧
    (s.flushSucceedsEffect).power = s.power ∧ (s.flushSucceedsEffect).stream = s.stream ∧
    (s.flushSucceedsEffect).conditions = s.conditions ∧ (s.flushSucceedsEffect).emitted = s.emitted ∧
    (s.flushSucceedsEffect).pending = s.pending := by
  unfold State.flushSucceedsEffect
  split <;> simp

@[simp] theorem State.flushFailsEffect_frame (s : State) :
    (s.flushFailsEffect).cfg = s.cfg ∧ (s.flushFailsEffect).jobs = s.jobs ∧ (s.flushFailsEffect).sram = s.sram ∧
    (s.flushFailsEffect).power = s.power ∧ (s.flushFailsEffect).stream = s.stream ∧
    (s.flushFailsEffect).conditions = s.conditions ∧ (s.flushFailsEffect).emitted = s.emitted ∧
    (s.flushFailsEffect).pending = s.pending := by
  unfold State.flushFailsEffect
  dsimp only
  repeat' split
  all_goals simp

@[simp] theorem State.completionEnters_frame (s : State) :
    (s.completionEnters).sup = s.sup ∧ (s.completionEnters).cfg = s.cfg ∧
    (s.completionEnters).requests = s.requests ∧ (s.completionEnters).jobs = s.jobs ∧
    (s.completionEnters).pool = s.pool ∧ (s.completionEnters).sram = s.sram ∧
    (s.completionEnters).planner = s.planner ∧ (s.completionEnters).seq = s.seq ∧
    (s.completionEnters).magnet = s.magnet ∧ (s.completionEnters).power = s.power ∧
    (s.completionEnters).remap = s.remap ∧ (s.completionEnters).stream = s.stream ∧
    (s.completionEnters).conditions = s.conditions ∧ (s.completionEnters).emitted = s.emitted ∧
    (s.completionEnters).pending = s.pending := by
  unfold State.completionEnters
  split <;> simp

@[simp] theorem State.holdPlace_frame (s : State) :
    (s.holdPlace).sup = s.sup ∧ (s.holdPlace).cfg = s.cfg ∧ (s.holdPlace).requests = s.requests ∧
    (s.holdPlace).jobs = s.jobs ∧ (s.holdPlace).pool = s.pool ∧ (s.holdPlace).sram = s.sram ∧
    (s.holdPlace).planner = s.planner ∧ (s.holdPlace).seq = s.seq ∧ (s.holdPlace).magnet = s.magnet ∧
    (s.holdPlace).power = s.power ∧ (s.holdPlace).remap = s.remap ∧ (s.holdPlace).stream = s.stream ∧
    (s.holdPlace).conditions = s.conditions ∧ (s.holdPlace).emitted = s.emitted ∧
    (s.holdPlace).pending = s.pending := by
  simp [State.holdPlace]


/-! ### The commands -/

@[simp] theorem State.taken_frame (tag kind n) (s : State) :
    (s.taken tag kind n).sup = s.sup ∧ (s.taken tag kind n).cfg = s.cfg ∧
    (s.taken tag kind n).requests = s.requests ∧ (s.taken tag kind n).jobs = s.jobs ∧
    (s.taken tag kind n).pool = s.pool ∧ (s.taken tag kind n).sram = s.sram ∧
    (s.taken tag kind n).planner = s.planner ∧ (s.taken tag kind n).seq = s.seq ∧
    (s.taken tag kind n).magnet = s.magnet ∧ (s.taken tag kind n).power = s.power ∧
    (s.taken tag kind n).remap = s.remap ∧ (s.taken tag kind n).stream = s.stream ∧
    (s.taken tag kind n).conditions = s.conditions ∧ (s.taken tag kind n).emitted = s.emitted ∧
    (s.taken tag kind n).pending = s.pending := by
  simp [State.taken]

@[simp] theorem State.refuse_frame (tag kind r) (s : State) :
    (s.refuse tag kind r).sup = s.sup ∧ (s.refuse tag kind r).cfg = s.cfg ∧
    (s.refuse tag kind r).requests = s.requests ∧ (s.refuse tag kind r).jobs = s.jobs ∧
    (s.refuse tag kind r).pool = s.pool ∧ (s.refuse tag kind r).sram = s.sram ∧
    (s.refuse tag kind r).planner = s.planner ∧ (s.refuse tag kind r).seq = s.seq ∧
    (s.refuse tag kind r).magnet = s.magnet ∧ (s.refuse tag kind r).power = s.power ∧
    (s.refuse tag kind r).remap = s.remap ∧ (s.refuse tag kind r).stream = s.stream ∧
    (s.refuse tag kind r).conditions = s.conditions ∧ (s.refuse tag kind r).emitted = s.emitted ∧
    (s.refuse tag kind r).pending = s.pending := by
  simp [State.refuse]

@[simp] theorem State.sense_frame (s : State) :
    (s.sense).sup = s.sup ∧ (s.sense).cfg = s.cfg ∧ (s.sense).requests = s.requests ∧ (s.sense).jobs = s.jobs ∧
    (s.sense).pool = s.pool ∧ (s.sense).sram = s.sram ∧ (s.sense).planner = s.planner ∧ (s.sense).seq = s.seq ∧
    (s.sense).magnet = s.magnet ∧ (s.sense).remap = s.remap ∧ (s.sense).stream = s.stream ∧
    (s.sense).emitted = s.emitted ∧ (s.sense).pending = s.pending := by
  simp [State.sense]

@[simp] theorem State.resetCommand_frame (s : State) :
    (s.resetCommand).cfg = s.cfg ∧ (s.resetCommand).sram = s.sram ∧ (s.resetCommand).emitted = s.emitted ∧
    (s.resetCommand).pending = s.pending := by
  simp [State.resetCommand]

@[simp] theorem State.recordLeft_frame (r) (s : State) :
    (s.recordLeft r).sup = s.sup ∧ (s.recordLeft r).cfg = s.cfg ∧ (s.recordLeft r).jobs = s.jobs ∧
    (s.recordLeft r).sram = s.sram ∧ (s.recordLeft r).planner = s.planner ∧ (s.recordLeft r).seq = s.seq ∧
    (s.recordLeft r).magnet = s.magnet ∧ (s.recordLeft r).power = s.power ∧ (s.recordLeft r).remap = s.remap ∧
    (s.recordLeft r).stream = s.stream ∧ (s.recordLeft r).conditions = s.conditions ∧
    (s.recordLeft r).emitted = s.emitted ∧ (s.recordLeft r).pending = s.pending := by
  unfold State.recordLeft
  split <;> simp

@[simp] theorem State.recordLeaves_frame (s : State) :
    (s.recordLeaves).sup = s.sup ∧ (s.recordLeaves).cfg = s.cfg ∧ (s.recordLeaves).jobs = s.jobs ∧
    (s.recordLeaves).sram = s.sram ∧ (s.recordLeaves).planner = s.planner ∧ (s.recordLeaves).seq = s.seq ∧
    (s.recordLeaves).magnet = s.magnet ∧ (s.recordLeaves).power = s.power ∧ (s.recordLeaves).remap = s.remap ∧
    (s.recordLeaves).stream = s.stream ∧ (s.recordLeaves).conditions = s.conditions ∧
    (s.recordLeaves).pending = s.pending := by
  unfold State.recordLeaves
  split <;> simp

@[simp] theorem State.addSpanJob_frame (kind tag lsn pre slots i) (s : State) :
    (s.addSpanJob kind tag lsn pre slots i).sup = s.sup ∧ (s.addSpanJob kind tag lsn pre slots i).cfg = s.cfg ∧
    (s.addSpanJob kind tag lsn pre slots i).requests = s.requests ∧
    (s.addSpanJob kind tag lsn pre slots i).pool = s.pool ∧ (s.addSpanJob kind tag lsn pre slots i).sram = s.sram ∧
    (s.addSpanJob kind tag lsn pre slots i).planner = s.planner ∧
    (s.addSpanJob kind tag lsn pre slots i).seq = s.seq ∧
    (s.addSpanJob kind tag lsn pre slots i).magnet = s.magnet ∧
    (s.addSpanJob kind tag lsn pre slots i).power = s.power ∧
    (s.addSpanJob kind tag lsn pre slots i).remap = s.remap ∧
    (s.addSpanJob kind tag lsn pre slots i).stream = s.stream ∧
    (s.addSpanJob kind tag lsn pre slots i).link = s.link ∧
    (s.addSpanJob kind tag lsn pre slots i).conditions = s.conditions ∧
    (s.addSpanJob kind tag lsn pre slots i).emitted = s.emitted ∧
    (s.addSpanJob kind tag lsn pre slots i).pending = s.pending := by
  simp [State.addSpanJob]

@[simp] theorem State.accept_frame (kind tag lsn count pre) (s : State) :
    (s.accept kind tag lsn count pre).sup = s.sup ∧ (s.accept kind tag lsn count pre).cfg = s.cfg ∧
    (s.accept kind tag lsn count pre).sram = s.sram ∧ (s.accept kind tag lsn count pre).planner = s.planner ∧
    (s.accept kind tag lsn count pre).seq = s.seq ∧ (s.accept kind tag lsn count pre).magnet = s.magnet ∧
    (s.accept kind tag lsn count pre).power = s.power ∧ (s.accept kind tag lsn count pre).remap = s.remap ∧
    (s.accept kind tag lsn count pre).stream = s.stream ∧ (s.accept kind tag lsn count pre).link = s.link ∧
    (s.accept kind tag lsn count pre).conditions = s.conditions ∧
    (s.accept kind tag lsn count pre).emitted = s.emitted ∧ (s.accept kind tag lsn count pre).pending = s.pending := by
  simp [State.accept]

@[simp] theorem State.takeData_frame (tag lsn bytes) (s : State) :
    (s.takeData tag lsn bytes).sup = s.sup ∧ (s.takeData tag lsn bytes).cfg = s.cfg ∧
    (s.takeData tag lsn bytes).requests = s.requests ∧ (s.takeData tag lsn bytes).pool = s.pool ∧
    (s.takeData tag lsn bytes).planner = s.planner ∧ (s.takeData tag lsn bytes).seq = s.seq ∧
    (s.takeData tag lsn bytes).magnet = s.magnet ∧ (s.takeData tag lsn bytes).power = s.power ∧
    (s.takeData tag lsn bytes).remap = s.remap ∧ (s.takeData tag lsn bytes).stream = s.stream ∧
    (s.takeData tag lsn bytes).conditions = s.conditions ∧ (s.takeData tag lsn bytes).emitted = s.emitted ∧
    (s.takeData tag lsn bytes).pending = s.pending := by
  unfold State.takeData
  dsimp only
  repeat' split
  all_goals simp

@[simp] theorem State.beginMount_frame (tag) (s : State) :
    (s.beginMount tag).cfg = s.cfg ∧ (s.beginMount tag).jobs = s.jobs ∧ (s.beginMount tag).pool = s.pool ∧
    (s.beginMount tag).sram = s.sram ∧ (s.beginMount tag).planner = s.planner ∧ (s.beginMount tag).seq = s.seq ∧
    (s.beginMount tag).magnet = s.magnet ∧ (s.beginMount tag).power = s.power ∧
    (s.beginMount tag).remap = s.remap ∧ (s.beginMount tag).stream = s.stream ∧ (s.beginMount tag).link = s.link ∧
    (s.beginMount tag).conditions = s.conditions ∧ (s.beginMount tag).emitted = s.emitted ∧
    (s.beginMount tag).pending = s.pending := by
  simp [State.beginMount]

@[simp] theorem State.cartridgeGone_frame (s : State) :
    (s.cartridgeGone).cfg = s.cfg ∧ (s.cartridgeGone).sram = s.sram ∧ (s.cartridgeGone).power = s.power ∧
    (s.cartridgeGone).emitted = s.emitted ∧ (s.cartridgeGone).pending = s.pending := by
  unfold State.cartridgeGone
  split <;> simp

@[simp] theorem State.tabEvent_frame (b) (s : State) :
    (s.tabEvent b).cfg = s.cfg ∧ (s.tabEvent b).jobs = s.jobs ∧ (s.tabEvent b).sram = s.sram ∧
    (s.tabEvent b).planner = s.planner ∧ (s.tabEvent b).seq = s.seq ∧ (s.tabEvent b).magnet = s.magnet ∧
    (s.tabEvent b).power = s.power ∧ (s.tabEvent b).stream = s.stream ∧ (s.tabEvent b).link = s.link ∧
    (s.tabEvent b).conditions = s.conditions ∧ (s.tabEvent b).emitted = s.emitted ∧
    (s.tabEvent b).pending = s.pending := by
  unfold State.tabEvent
  dsimp only
  repeat' split
  all_goals simp

@[simp] theorem State.ejectPressed_frame (s : State) :
    (s.ejectPressed).cfg = s.cfg ∧ (s.ejectPressed).jobs = s.jobs ∧ (s.ejectPressed).pool = s.pool ∧
    (s.ejectPressed).sram = s.sram ∧ (s.ejectPressed).planner = s.planner ∧ (s.ejectPressed).seq = s.seq ∧
    (s.ejectPressed).magnet = s.magnet ∧ (s.ejectPressed).power = s.power ∧ (s.ejectPressed).remap = s.remap ∧
    (s.ejectPressed).stream = s.stream ∧ (s.ejectPressed).link = s.link ∧ (s.ejectPressed).pending = s.pending := by
  unfold State.ejectPressed
  split <;> simp

@[simp] theorem State.spindleHalts_frame (s : State) :
    (s.spindleHalts).cfg = s.cfg ∧ (s.spindleHalts).sram = s.sram ∧ (s.spindleHalts).power = s.power ∧
    (s.spindleHalts).pending = s.pending := by
  unfold State.spindleHalts
  split <;> simp

@[simp] theorem State.temperatureRead_frame (t) (s : State) :
    (s.temperatureRead t).cfg = s.cfg ∧ (s.temperatureRead t).requests = s.requests ∧
    (s.temperatureRead t).jobs = s.jobs ∧ (s.temperatureRead t).pool = s.pool ∧
    (s.temperatureRead t).sram = s.sram ∧ (s.temperatureRead t).planner = s.planner ∧
    (s.temperatureRead t).seq = s.seq ∧ (s.temperatureRead t).magnet = s.magnet ∧
    (s.temperatureRead t).power = s.power ∧ (s.temperatureRead t).remap = s.remap ∧
    (s.temperatureRead t).stream = s.stream ∧ (s.temperatureRead t).link = s.link ∧
    (s.temperatureRead t).emitted = s.emitted ∧ (s.temperatureRead t).pending = s.pending := by
  unfold State.temperatureRead
  split <;> simp

@[simp] theorem State.indexSequencer_frame (s : State) :
    (s.indexSequencer).sup = s.sup ∧ (s.indexSequencer).cfg = s.cfg ∧ (s.indexSequencer).requests = s.requests ∧
    (s.indexSequencer).pool = s.pool ∧ (s.indexSequencer).sram = s.sram ∧ (s.indexSequencer).planner = s.planner ∧
    (s.indexSequencer).magnet = s.magnet ∧ (s.indexSequencer).power = s.power ∧
    (s.indexSequencer).remap = s.remap ∧ (s.indexSequencer).stream = s.stream ∧ (s.indexSequencer).link = s.link ∧
    (s.indexSequencer).conditions = s.conditions ∧ (s.indexSequencer).emitted = s.emitted ∧
    (s.indexSequencer).pending = s.pending := by
  simp [State.indexSequencer]

@[simp] theorem State.indexJobs_frame (s : State) :
    (s.indexJobs).cfg = s.cfg ∧ (s.indexJobs).magnet = s.magnet ∧ (s.indexJobs).power = s.power ∧
    (s.indexJobs).emitted = s.emitted ∧ (s.indexJobs).pending = s.pending := by
  unfold State.indexJobs
  dsimp only
  repeat' split
  all_goals simp

@[simp] theorem State.indexPlanner_frame (s : State) :
    (s.indexPlanner).sup = s.sup ∧ (s.indexPlanner).cfg = s.cfg ∧ (s.indexPlanner).requests = s.requests ∧
    (s.indexPlanner).jobs = s.jobs ∧ (s.indexPlanner).pool = s.pool ∧ (s.indexPlanner).sram = s.sram ∧
    (s.indexPlanner).seq = s.seq ∧ (s.indexPlanner).power = s.power ∧ (s.indexPlanner).remap = s.remap ∧
    (s.indexPlanner).stream = s.stream ∧ (s.indexPlanner).link = s.link ∧
    (s.indexPlanner).conditions = s.conditions ∧ (s.indexPlanner).pending = s.pending := by
  unfold State.indexPlanner
  split <;> simp

@[simp] theorem State.indexPower_frame (s : State) :
    (s.indexPower).sup = s.sup ∧ (s.indexPower).cfg = s.cfg ∧ (s.indexPower).requests = s.requests ∧
    (s.indexPower).jobs = s.jobs ∧ (s.indexPower).pool = s.pool ∧ (s.indexPower).sram = s.sram ∧
    (s.indexPower).planner = s.planner ∧ (s.indexPower).seq = s.seq ∧ (s.indexPower).magnet = s.magnet ∧
    (s.indexPower).remap = s.remap ∧ (s.indexPower).stream = s.stream ∧ (s.indexPower).link = s.link ∧
    (s.indexPower).emitted = s.emitted ∧ (s.indexPower).pending = s.pending := by
  unfold State.indexPower
  split <;> simp

@[simp] theorem State.indexEvent_frame (s : State) :
    (s.indexEvent).cfg = s.cfg ∧ (s.indexEvent).pending = s.pending := by
  unfold State.indexEvent
  split <;> simp

@[simp] theorem State.offTrackEvent_frame (s : State) :
    (s.offTrackEvent).sup = s.sup ∧ (s.offTrackEvent).cfg = s.cfg ∧ (s.offTrackEvent).requests = s.requests ∧
    (s.offTrackEvent).pool = s.pool ∧ (s.offTrackEvent).sram = s.sram ∧ (s.offTrackEvent).power = s.power ∧
    (s.offTrackEvent).remap = s.remap ∧ (s.offTrackEvent).stream = s.stream ∧ (s.offTrackEvent).link = s.link ∧
    (s.offTrackEvent).pending = s.pending := by
  unfold State.offTrackEvent
  split <;> simp

@[simp] theorem State.focusLostEvent_frame (s : State) :
    (s.focusLostEvent).sup = s.sup ∧ (s.focusLostEvent).cfg = s.cfg ∧ (s.focusLostEvent).requests = s.requests ∧
    (s.focusLostEvent).pool = s.pool ∧ (s.focusLostEvent).sram = s.sram ∧ (s.focusLostEvent).magnet = s.magnet ∧
    (s.focusLostEvent).power = s.power ∧ (s.focusLostEvent).remap = s.remap ∧
    (s.focusLostEvent).stream = s.stream ∧ (s.focusLostEvent).link = s.link ∧
    (s.focusLostEvent).conditions = s.conditions ∧ (s.focusLostEvent).emitted = s.emitted ∧
    (s.focusLostEvent).pending = s.pending := by
  unfold State.focusLostEvent
  split <;> simp

@[simp] theorem State.focusRegainedEvent_frame (s : State) :
    (s.focusRegainedEvent).sup = s.sup ∧ (s.focusRegainedEvent).cfg = s.cfg ∧
    (s.focusRegainedEvent).requests = s.requests ∧ (s.focusRegainedEvent).jobs = s.jobs ∧
    (s.focusRegainedEvent).pool = s.pool ∧ (s.focusRegainedEvent).sram = s.sram ∧
    (s.focusRegainedEvent).power = s.power ∧ (s.focusRegainedEvent).remap = s.remap ∧
    (s.focusRegainedEvent).stream = s.stream ∧ (s.focusRegainedEvent).link = s.link ∧
    (s.focusRegainedEvent).conditions = s.conditions ∧ (s.focusRegainedEvent).pending = s.pending := by
  unfold State.focusRegainedEvent
  dsimp only
  repeat' split
  all_goals simp

@[simp] theorem State.stagePower_frame (kind b g k th d pmin pmax r) (s : State) :
    (s.stagePower kind b g k th d pmin pmax r).sup = s.sup ∧
    (s.stagePower kind b g k th d pmin pmax r).cfg = s.cfg ∧
    (s.stagePower kind b g k th d pmin pmax r).requests = s.requests ∧
    (s.stagePower kind b g k th d pmin pmax r).jobs = s.jobs ∧
    (s.stagePower kind b g k th d pmin pmax r).pool = s.pool ∧
    (s.stagePower kind b g k th d pmin pmax r).sram = s.sram ∧
    (s.stagePower kind b g k th d pmin pmax r).planner = s.planner ∧
    (s.stagePower kind b g k th d pmin pmax r).seq = s.seq ∧
    (s.stagePower kind b g k th d pmin pmax r).magnet = s.magnet ∧
    (s.stagePower kind b g k th d pmin pmax r).remap = s.remap ∧
    (s.stagePower kind b g k th d pmin pmax r).stream = s.stream ∧
    (s.stagePower kind b g k th d pmin pmax r).conditions = s.conditions ∧
    (s.stagePower kind b g k th d pmin pmax r).emitted = s.emitted ∧
    (s.stagePower kind b g k th d pmin pmax r).pending = s.pending := by
  simp [State.stagePower]

@[simp] theorem State.takeFlush_frame (tag) (s : State) :
    (s.takeFlush tag).sup = s.sup ∧ (s.takeFlush tag).cfg = s.cfg ∧ (s.takeFlush tag).jobs = s.jobs ∧
    (s.takeFlush tag).pool = s.pool ∧ (s.takeFlush tag).sram = s.sram ∧ (s.takeFlush tag).planner = s.planner ∧
    (s.takeFlush tag).seq = s.seq ∧ (s.takeFlush tag).magnet = s.magnet ∧ (s.takeFlush tag).power = s.power ∧
    (s.takeFlush tag).stream = s.stream ∧ (s.takeFlush tag).conditions = s.conditions ∧
    (s.takeFlush tag).emitted = s.emitted ∧ (s.takeFlush tag).pending = s.pending := by
  unfold State.takeFlush
  dsimp only
  repeat' split
  all_goals simp

@[simp] theorem State.reserveRing_frame (s : State) :
    (s.reserveRing).sup = s.sup ∧ (s.reserveRing).cfg = s.cfg ∧ (s.reserveRing).requests = s.requests ∧
    (s.reserveRing).jobs = s.jobs ∧ (s.reserveRing).sram = s.sram ∧ (s.reserveRing).planner = s.planner ∧
    (s.reserveRing).seq = s.seq ∧ (s.reserveRing).magnet = s.magnet ∧ (s.reserveRing).power = s.power ∧
    (s.reserveRing).remap = s.remap ∧ (s.reserveRing).link = s.link ∧ (s.reserveRing).conditions = s.conditions ∧
    (s.reserveRing).emitted = s.emitted ∧ (s.reserveRing).pending = s.pending := by
  unfold State.reserveRing
  split <;> simp

@[simp] theorem State.killEvent_frame (s : State) :
    (s.killEvent).sup = s.sup ∧ (s.killEvent).cfg = s.cfg ∧ (s.killEvent).magnet = s.magnet ∧
    (s.killEvent).power = s.power ∧ (s.killEvent).emitted = s.emitted ∧ (s.killEvent).pending = s.pending := by
  unfold State.killEvent
  dsimp only
  repeat' split
  all_goals simp

end Sys2Proof.Machine
end

