-- ==== Sys2Proof/Laws/Operations.lean ====
section
/-! SUPPORT. What the shared operations can do, each said once: clamps, the condition set, the outbound lane, the mount
state, the job table and the remap table. -/

namespace Sys2Proof.Machine

/-! ### Clamps (R126, R195) -/

theorem le_clampNat (lo hi n : Nat) : lo ≤ clampNat lo hi n := Nat.le_max_left ..

theorem clampNat_le {lo hi : Nat} (h : lo ≤ hi) (n : Nat) : clampNat lo hi n ≤ hi :=
  Nat.max_le.mpr ⟨h, Nat.min_le_left ..⟩

/-- A value already in the range is not changed. -/
theorem clampNat_of_mem {lo hi n : Nat} (h1 : lo ≤ n) (h2 : n ≤ hi) : clampNat lo hi n = n := by
  rw [clampNat, Nat.min_eq_right h2, Nat.max_eq_right h1]

theorem le_clampInt (lo hi n : Int) : lo ≤ clampInt lo hi n := Int.le_max_left ..

theorem clampInt_le {lo hi : Int} (h : lo ≤ hi) (n : Int) : clampInt lo hi n ≤ hi :=
  Int.max_le.mpr ⟨h, Int.min_le_left ..⟩

/-! ### The condition set (R191) -/

theorem State.raise_conditions (c : Condition) (s : State) :
    (s.raise c).conditions = if c ∈ s.conditions then s.conditions else s.conditions ++ [c] := by
  unfold State.raise
  split <;> rfl

theorem State.mem_raise {c d : Condition} {s : State} : d ∈ (s.raise c).conditions ↔ d ∈ s.conditions ∨ d = c := by
  rw [State.raise_conditions]
  split
  · exact ⟨Or.inl, fun h => h.elim id fun h => h ▸ ‹_›⟩
  · simp

theorem State.raise_nodup {s : State} (h : s.conditions.Nodup) (c : Condition) : (s.raise c).conditions.Nodup := by
  rw [State.raise_conditions]
  split
  · exact h
  · refine List.nodup_append.mpr ⟨h, by simp, fun a ha b hb => ?_⟩
    rintro rfl
    simp only [List.mem_singleton] at hb
    exact absurd (hb ▸ ha) ‹_›

/-! ### The outbound lane (R186, R188) -/

theorem State.compose_link (r : Record) (s : State) :
    (s.compose r).link =
      if s.link.waiting = [] ∧ 0 < s.link.free then { s.link with occupied := s.link.occupied ++ [r] }
      else { s.link with waiting := s.link.waiting ++ [r] } := by
  unfold State.compose
  split <;> rfl

/-- A composed record stands in the queue or in its list, and takes no place but a free one. -/
theorem State.compose_lawful {s : State} (h : s.link.Lawful) (r : Record) : (s.compose r).link.Lawful := by
  rw [State.compose_link]
  split
  · have hf := (‹_ ∧ _›).2
    simp only [Link.Lawful, Link.free, List.length_append, List.length_singleton] at *
    omega
  · exact h

/-- A reply takes the held place and no other. -/
theorem State.reply_lawful {s : State} (h : s.link.Lawful) (hh : s.link.held = true) (r : Record) :
    (s.reply r).link.Lawful := by
  simp only [Link.Lawful, State.reply, State.withLink, List.length_append, List.length_singleton, hh] at *
  simpa using h

/-! ### The mount state (R14) -/

@[simp] theorem State.setMount_mount (m : Mount) (s : State) : (s.setMount m).sup.mount = m := rfl
@[simp] theorem State.setMount_spindleRun (m : Mount) (s : State) : (s.setMount m).sup.spindleRun = m.runs := rfl
@[simp] theorem State.setMount_indexTimer (m : Mount) (s : State) : (s.setMount m).sup.indexTimer = s.sup.indexTimer := rfl
@[simp] theorem State.setMount_spinUpTimer (m : Mount) (s : State) :
    (s.setMount m).sup.spinUpTimer = s.sup.spinUpTimer := rfl
@[simp] theorem State.setMount_inhibit (m : Mount) (s : State) : (s.setMount m).sup.inhibit = s.sup.inhibit := rfl
@[simp] theorem State.setMount_mountCtx (m : Mount) (s : State) : (s.setMount m).sup.mountCtx = s.sup.mountCtx := rfl
@[simp] theorem State.setMount_unmountCtx (m : Mount) (s : State) : (s.setMount m).sup.unmountCtx = s.sup.unmountCtx := rfl

/-! ### The job table (R42, R46) -/

/-- A fresh entry belongs to no job of the table and is none of the excepted ones. -/
theorem freshId_some {jobs : List Job} {except : List JobId} {i : JobId} (h : freshId jobs except = some i) :
    (∀ j ∈ jobs, j.id ≠ i) ∧ i ∉ except := by
  have hp := List.find?_some h
  simp only [Bool.and_eq_true, Bool.not_eq_true', List.any_eq_false, beq_iff_eq, List.contains_eq_mem,
    decide_eq_false_iff_not] at hp
  exact ⟨fun j hj => hp.1 j hj, hp.2⟩

/-- The job of an id stands in the table under that id. -/
theorem State.job?_some {s : State} {id : JobId} {j : Job} (h : s.job? id = some j) : j ∈ s.jobs ∧ j.id = id :=
  ⟨List.mem_of_find?_eq_some h, by simpa using List.find?_some h⟩

/-- A change of one job changes no entry number. -/
theorem State.updateJob_ids (id : JobId) (f : Job → Job) (s : State) (h : ∀ j, (f j).id = j.id) :
    (s.updateJob id f).jobs.map Job.id = s.jobs.map Job.id := by
  simp only [State.updateJob, State.withJobs, List.map_map]
  refine List.map_congr_left fun j _ => ?_
  simp only [Function.comp]
  split
  · exact h j
  · rfl

/-! ### The remap table (R142 to R147) -/

/-- An entry that joins the table is one more entry, and no other entry changes. -/
theorem insertEntry_perm (e : Entry) : ∀ l : List Entry, (insertEntry e l).Perm (e :: l)
  | [] => .refl _
  | x :: xs => by
      simp only [insertEntry]
      split
      · exact .refl _
      · exact ((insertEntry_perm e xs).cons x).trans (.swap ..)

theorem insertEntry_length (e : Entry) (l : List Entry) : (insertEntry e l).length = l.length + 1 :=
  (insertEntry_perm e l).length_eq

/-- An allocated spare lies in one of the bands searched, no entry names it, and the table had room (R143, R145). -/
theorem allocateSpare_some {entries : List Entry} {lsn : Nat} {p : Psa} (h : allocateSpare entries lsn = some p) :
    entries.length < remapCapacity ∧ p ∈ (bandOrder (lsnZone lsn)).flatMap spareBand ∧
      ∀ e ∈ entries, e.spare ≠ p := by
  unfold allocateSpare at h
  split at h
  · refine ⟨‹_›, List.mem_of_find?_eq_some h, fun e he => ?_⟩
    have := List.find?_some h
    simp only [List.all_eq_true, bne_iff_ne] at this
    exact this e he
  · cases h

/-! ### Checks made in order (R15, R36) -/

/-- The refusal given is that of a failing check with no failing one before it. -/
theorem firstRefusal_cons (ok : Bool) (r : Refused) (checks : List (Bool × Refused)) :
    firstRefusal ((ok, r) :: checks) = if ok then firstRefusal checks else some r := by
  cases ok <;> simp [firstRefusal]

theorem firstRefusal_nil : firstRefusal [] = none := rfl

/-- No check fails exactly when each holds. -/
theorem firstRefusal_eq_none {checks : List (Bool × Refused)} : firstRefusal checks = none ↔ ∀ c ∈ checks, c.1 = true := by
  simp [firstRefusal]

end Sys2Proof.Machine
end

