-- ==== Sys2Proof/Laws/Claims.lean ====
section
/-! SUPPORT. The claims on the job table (R40, R46): each claim that is met brings the part nearer to having none, so that
`meetClaims` leaves none that can be met. -/

namespace Sys2Proof.Machine

/-- A table with fewer than 256 jobs has a fresh entry. -/
theorem freshId_isSome {jobs : List Job} (h : jobs.length < 256) : (freshId jobs []).isSome = true := by
  rw [freshId, List.find?_isSome]
  by_contra hn
  have hs : allJobIds ⊆ jobs.map Job.id := fun i hi => by
    by_contra hm
    refine hn ⟨i, hi, ?_⟩
    simp only [List.contains_nil, Bool.not_false, Bool.and_true, Bool.not_eq_true', List.any_eq_false, beq_iff_eq]
    exact fun j hj he => hm (he ▸ List.mem_map_of_mem hj)
  have hl := (List.subperm_of_subset (by decide +kernel : allJobIds.Nodup) hs).length_le
  have h256 : allJobIds.length = 256 := by rw [allJobIds, List.length_map, List.length_range]
  rw [List.length_map] at hl
  omega

/-- A job created in a table with a free entry is one more job. -/
theorem State.createJob_length {s : State} (h : s.jobs.length < 256) (mk : JobId → Job) :
    (s.createJob [] mk).jobs.length = s.jobs.length + 1 := by
  obtain ⟨id, hid⟩ := Option.isSome_iff_exists.mp (freshId_isSome h)
  simp [State.createJob, hid]

/-- A sector recorded FAILED leaves a flush that does not wait for slots so. -/
theorem State.failSector_flushWaits (reason : Reason) (k : Nat) (s : State) :
    (s.failSector reason k).flushWaits = s.flushWaits := by
  have hr : (s.recordFlush k (.failed reason)).flushWaits = s.flushWaits := by
    unfold State.recordFlush
    cases h : s.remap.flush with
    | none => rfl
    | some f => cases ho : f.owner <;> simp [State.flushWaits, State.updateFlush, h, ho]
  unfold State.failSector
  cases s.remap.flush with
  | none => simp only
  | some f =>
    dsimp only
    generalize f.sectors[k]? = x
    cases x with
    | none => simp only
    | some x =>
      cases x <;> dsimp only
      · exact hr
      · rw [← hr]
        simp [State.flushWaits]

/-- A flush that has taken its slots waits for none. -/
theorem State.flushTakes_flushWaits (s : State) : s.flushTakes.flushWaits = false := by
  have fold : ∀ (ks : List Nat) (reason : Reason) (t : State),
      (ks.foldl (State.failSector reason) t).flushWaits = t.flushWaits := fun ks reason => by
    induction ks with
    | nil => exact fun _ => rfl
    | cons k ks ih => exact fun t => (ih _).trans (t.failSector_flushWaits reason k)
  have taken (t : State) (f : FlushContext → FlushContext) (hf : ∀ c, (f c).phase = .writing0to15) :
      (t.updateFlush f).flushWaits = false := by
    cases h : t.remap.flush <;> simp [State.flushWaits, State.updateFlush, h, hf]
  unfold State.flushTakes
  dsimp only
  split
  · exact taken _ _ fun _ => rfl
  · unfold State.withdrawFlushClaims
    split
    · rw [fold]
      exact taken _ _ fun _ => rfl
    · exact taken _ _ fun _ => rfl

/-- What is left for claims to take: free entries, the fetch pointer, a flush that waits. -/
def State.claimsLeft (s : State) : Nat :=
  (256 - s.jobs.length) + (if s.stream.fetch.isSome then 1 else 0) + (if s.flushWaits then 1 else 0)

/-- A claim that is met leaves less for claims to take. -/
theorem State.claimStep_lt {s t : State} (h : s.claimStep = some t) : t.claimsLeft < s.claimsLeft := by
  unfold State.claimStep at h
  split at h
  · rename_i hd
    obtain rfl := Option.some.inj h
    have hw : s.flushWaits = true := by
      simp only [State.flushSlotsDue, Bool.and_eq_true] at hd
      exact hd.1.1
    have ht := s.flushTakes_flushWaits
    simp [State.claimsLeft, ht, hw]
  · split at h
    · rename_i hd
      obtain rfl := Option.some.inj h
      simp only [State.streamClaimDue, State.streamClaim, Bool.and_eq_true, Bool.not_eq_true',
        List.isEmpty_eq_false_iff] at hd
      obtain ⟨⟨hf, hr⟩, hl⟩ := hd
      have hl : s.jobs.length < 256 := by
        have := of_decide_eq_true hl
        unfold State.freeEntries tableEntries at this
        omega
      have hw : s.streamClaimMet.flushWaits = s.flushWaits := by simp [State.flushWaits]
      obtain ⟨⟨place, k⟩, hfe⟩ := Option.isSome_iff_exists.mp hf
      obtain ⟨slot, rest, hri⟩ := List.exists_cons_of_ne_nil hr
      simp only [State.claimsLeft, hw, hf, if_true]
      cases hls : s.stream.lsnOf place k with
      | none =>
        have hm : s.streamClaimMet = s.withStream { s.stream with fetch := none } := by
          simp [State.streamClaimMet, hfe, hri, hls]
        simp [hm]
      | some lsn =>
        have hm : s.streamClaimMet.jobs.length = s.jobs.length + 1 := by
          simp only [State.streamClaimMet, hfe, hri, hls]
          exact State.createJob_length
            (s := s.withStream { s.stream with ringFree := rest, fetch := s.stream.advanceFetch }) hl _
        rw [hm]
        split <;> omega
    · split at h
      · rename_i hd
        obtain rfl := Option.some.inj h
        simp only [State.mapClaimDue, Bool.and_eq_true] at hd
        obtain ⟨⟨⟨⟨hc, hl⟩, -⟩, -⟩, -⟩ := hd
        have hl : s.jobs.length < 256 := by
          have := of_decide_eq_true hl
          unfold State.freeEntries tableEntries at this
          omega
        obtain ⟨⟨k, slot⟩, hk⟩ := Option.isSome_iff_exists.mp hc
        have hm : s.mapClaimMet.jobs.length = s.jobs.length + 1 := by
          simp only [State.mapClaimMet, hk]
          exact State.createJob_length (s := s.updateFlush _) hl _
        have hw : s.mapClaimMet.flushWaits = s.flushWaits := by
          cases hf : s.remap.flush <;> simp [State.mapClaimMet, hk, State.flushWaits, State.updateFlush, hf]
        have hs : s.mapClaimMet.stream = s.stream := by simp
        rw [State.claimsLeft, hm, hw, hs, State.claimsLeft]
        omega
      · cases h

/-- Claims met one after another leave none that can be met, where their number bounds what is left to take. -/
theorem State.meetWithin_claimStep : ∀ (n : Nat) (s : State), s.claimsLeft ≤ n → (State.meetWithin n s).claimStep = none
  | 0, s, h => by
      cases hc : s.claimStep with
      | none => exact hc
      | some t => exact absurd (State.claimStep_lt hc) (by omega)
  | n + 1, s, h => by
      unfold State.meetWithin
      split
      · rename_i t ht
        exact State.meetWithin_claimStep n t (by have := State.claimStep_lt ht; omega)
      · assumption

/-- What an act within an event has freed has gone to the claims: none is left that can be met (R40, R46). -/
theorem State.meetClaims_claimStep (s : State) : s.meetClaims.claimStep = none := by
  refine State.meetWithin_claimStep _ _ ?_
  unfold State.claimsLeft claimBound
  split <;> split <;> omega

end Sys2Proof.Machine
end

