-- ==== Sys2Proof/Laws/Memory.lean ====
section
/-! SUPPORT. The laws of the buffer SRAM: every operation keeps the canonical form, a slot reads back what was written to
it, and every byte outside it reads as before. -/

namespace Sys2Proof.Machine

/-! ### The canonical form -/

theorem slotBase_end_le (slot : Slot) : slotBase slot + 1024 ≤ sramSize := by
  have := slot.isLt
  simp only [slotBase, sramSize]
  omega

/-- The cells of a block lie inside it and hold no unwritten byte. -/
theorem mem_blockCells {base : Nat} {bytes : List Byte} {c : Host.Cell} (h : c ∈ blockCells base bytes) :
    base ≤ c.1 ∧ c.1 < base + 1024 ∧ c.2 ≠ unwritten := by
  simp only [blockCells, List.mem_filter, List.mem_map, decide_eq_true_eq] at h
  obtain ⟨⟨p, hp, rfl⟩, hne⟩ := h
  have hlt := List.snd_lt_of_mem_zipIdx hp
  rw [List.length_take] at hlt
  exact ⟨by simp only; omega, by simp only; omega, hne⟩

/-- The cells of a block stand in rising order of address. -/
theorem blockCells_pairwise (base : Nat) (bytes : List Byte) :
    (blockCells base bytes).Pairwise fun a b => a.1 < b.1 := by
  refine List.Pairwise.filter _ (List.pairwise_map.mpr ?_)
  have h : (List.map Prod.snd (bytes.take 1024).zipIdx).Pairwise (· < ·) := by
    rw [List.zipIdx_map_snd]
    exact List.pairwise_lt_range'
  exact (List.pairwise_map.mp h).imp fun hab => by simp only; omega

/-- An empty SRAM is in the canonical form. -/
theorem Memory.wf_nil : Memory.wf ([] : Memory) := by simp [Memory.wf]

/-- A slot's write keeps the canonical form. -/
theorem Memory.writeSlot_wf {m : Memory} (h : m.wf) (slot : Slot) (bytes : List Byte) : (m.writeSlot slot bytes).wf := by
  obtain ⟨hp, hc⟩ := h
  have hend := slotBase_end_le slot
  refine ⟨?_, ?_⟩
  · refine List.pairwise_append.mpr ⟨List.pairwise_append.mpr
      ⟨hp.filter _, blockCells_pairwise _ _, ?_⟩, hp.filter _, ?_⟩
    · intro a ha b hb
      have ha' := of_decide_eq_true (List.mem_filter.mp ha).2
      have hb' := mem_blockCells hb
      omega
    · intro a ha b hb
      have hb' := of_decide_eq_true (List.mem_filter.mp hb).2
      rcases List.mem_append.mp ha with ha | ha
      · have ha' := of_decide_eq_true (List.mem_filter.mp ha).2
        omega
      · have ha' := mem_blockCells ha
        omega
  · intro c hcm
    rcases List.mem_append.mp hcm with hcm | hcm
    · rcases List.mem_append.mp hcm with hcm | hcm
      · exact hc c (List.mem_filter.mp hcm).1
      · have := mem_blockCells hcm
        exact ⟨by omega, this.2.2⟩
    · exact hc c (List.mem_filter.mp hcm).1

/-! ### Reading -/

theorem find?_filter_of_imp {α : Type} {p q : α → Bool} {l : List α} (h : ∀ x ∈ l, p x = true → q x = true) :
    (l.filter q).find? p = l.find? p := by
  induction l with
  | nil => rfl
  | cons x l ih =>
    have hx := h x (by simp)
    have hl := ih fun y hy => h y (by simp [hy])
    cases hpx : p x with
    | true => simp [hx hpx, hpx]
    | false => cases hqx : q x <;> simp [hpx, hqx, hl]

/-- A byte outside a slot reads as before the slot's write. -/
theorem Memory.read_writeSlot_of_outside (m : Memory) (slot : Slot) (bytes : List Byte) (a : Nat)
    (h : a < slotBase slot ∨ slotBase slot + 1024 ≤ a) : (m.writeSlot slot bytes).read a = m.read a := by
  have hblock : (blockCells (slotBase slot) bytes).find? (fun c => c.1 == a) = none := by
    rw [List.find?_eq_none]
    intro c hc
    have := mem_blockCells hc
    simp only [beq_iff_eq]
    omega
  simp only [Memory.read, Memory.writeSlot, List.find?_append, hblock, Option.or_none]
  rcases h with h | h
  · rw [find?_filter_of_imp (l := m) (q := fun c => decide (c.1 < slotBase slot))
      fun x _ hx => by simp only [beq_iff_eq] at hx; simp only [decide_eq_true_eq]; omega]
    have : (m.filter fun c => decide (slotBase slot + 1024 ≤ c.1)).find? (fun c => c.1 == a) = none := by
      rw [List.find?_eq_none]
      intro c hc
      have := of_decide_eq_true (List.mem_filter.mp hc).2
      simp only [beq_iff_eq]
      omega
    simp only [this, Option.or_none]
  · rw [find?_filter_of_imp (l := m) (q := fun c => decide (slotBase slot + 1024 ≤ c.1))
      fun x _ hx => by simp only [beq_iff_eq] at hx; simp only [decide_eq_true_eq]; omega]
    have : (m.filter fun c => decide (c.1 < slotBase slot)).find? (fun c => c.1 == a) = none := by
      rw [List.find?_eq_none]
      intro c hc
      have := of_decide_eq_true (List.mem_filter.mp hc).2
      simp only [beq_iff_eq]
      omega
    simp only [this, Option.none_or]

/-- The byte a block gives for one of its addresses. -/
theorem blockCells_read (base : Nat) (bytes : List Byte) (i : Nat) :
    (blockCells base bytes).read (base + i) = (bytes.take 1024).getD i unwritten := by
  unfold blockCells
  generalize bytes.take 1024 = bs
  suffices h : ∀ k, k ≤ i →
      Memory.read (((bs.zipIdx k).map fun p => (base + p.2, p.1)).filter fun c => decide (c.2 ≠ unwritten)) (base + i)
        = bs.getD (i - k) unwritten from h 0 (Nat.zero_le i)
  induction bs with
  | nil => intro k _; simp [Memory.read]
  | cons b bs ih =>
    intro k hk
    simp only [List.zipIdx_cons, List.map_cons, List.filter_cons]
    by_cases hki : k = i
    · subst hki
      by_cases hb : b = unwritten
      · have hnone : (((bs.zipIdx (k + 1)).map fun p => (base + p.2, p.1)).filter
            fun c => decide (c.2 ≠ unwritten)).find? (fun c => c.1 == base + k) = none := by
          rw [List.find?_eq_none]
          intro c hc
          simp only [List.mem_filter, List.mem_map] at hc
          obtain ⟨⟨p, hp, rfl⟩, _⟩ := hc
          have := List.le_snd_of_mem_zipIdx hp
          simp only [beq_iff_eq]
          omega
        simp only [hb, ne_eq, not_true_eq_false, decide_false, Bool.false_eq_true, if_false, Memory.read, hnone,
          Nat.sub_self, List.getD_cons_zero]
      · simp [hb, Memory.read]
    · have hlt : k + 1 ≤ i := by omega
      have hsub : i - k = (i - (k + 1)) + 1 := by omega
      rw [hsub, List.getD_cons_succ, ← ih (k + 1) hlt]
      by_cases hb : b = unwritten
      · simp [hb]
      · have hne : (base + k == base + i) = false := by simp only [beq_eq_false_iff_ne]; omega
        simp only [ne_eq, hb, not_false_eq_true, decide_true, if_true, Memory.read, List.find?_cons, hne]

/-- A byte of a slot reads back as written; a byte beyond the list reads as unwritten. -/
theorem Memory.read_writeSlot_inside (m : Memory) (slot : Slot) (bytes : List Byte) (i : Nat) (hi : i < 1024) :
    (m.writeSlot slot bytes).read (slotBase slot + i) = (bytes.take 1024).getD i unwritten := by
  have hlow : (m.filter fun c => decide (c.1 < slotBase slot)).find? (fun c => c.1 == slotBase slot + i) = none := by
    rw [List.find?_eq_none]
    intro c hc
    have := of_decide_eq_true (List.mem_filter.mp hc).2
    simp only [beq_iff_eq]
    omega
  have hhigh : (m.filter fun c => decide (slotBase slot + 1024 ≤ c.1)).find?
      (fun c => c.1 == slotBase slot + i) = none := by
    rw [List.find?_eq_none]
    intro c hc
    have := of_decide_eq_true (List.mem_filter.mp hc).2
    simp only [beq_iff_eq]
    omega
  rw [← blockCells_read (slotBase slot) bytes i]
  simp only [Memory.read, Memory.writeSlot, List.find?_append, hlow, hhigh, Option.none_or, Option.or_none]

/-- A slot's 1,024 bytes read back as written. -/
theorem Memory.readSlot_writeSlot (m : Memory) (slot : Slot) (bytes : List Byte) (h : bytes.length = 1024) :
    (m.writeSlot slot bytes).readSlot slot = bytes := by
  apply List.ext_getElem
  · simp [Memory.readSlot, h]
  · intro i h1 h2
    simp only [Memory.readSlot, List.getElem_map, List.getElem_range]
    rw [Memory.read_writeSlot_inside m slot bytes i (by omega), List.take_of_length_le (by omega)]
    simp [List.getD_eq_getElem?_getD, List.getElem?_eq_getElem h2]

/-- The bytes of another slot are those it held before. -/
theorem Memory.readSlot_writeSlot_ne (m : Memory) {slot other : Slot} (hne : other ≠ slot) (bytes : List Byte) :
    (m.writeSlot slot bytes).readSlot other = m.readSlot other := by
  have hv : other.val ≠ slot.val := fun h => hne (Fin.ext h)
  simp only [Memory.readSlot]
  apply List.map_congr_left
  intro i hi
  have hi' := List.mem_range.mp hi
  refine Memory.read_writeSlot_of_outside m slot bytes _ ?_
  simp only [slotBase]
  omega

end Sys2Proof.Machine
end

