-- ==== Sys2Proof/Laws/PerInstr.lean ====
section
/-! SUPPORT. A family of statements made for each command: the payload a command writes has the length its kind code
demands (R189, R200). -/

namespace Sys2Proof.Laws.WireFormat

/-- A well-formed command that travels as a frame has a payload of the length R189 gives its kind code. -/
def Statement (i : Instr) : Prop :=
  i.wellFormed = true → ∀ k, i.kindCode = some k → payloadLength k = some i.payload.length

/-- A command that travels as no frame has no kind code. -/
theorem of_no_kind {i : Instr} (h : i.kindCode = none) : Statement i := fun _ k hk => by simp [h] at hk

/-- A command whose payload has the length of its kind code. -/
theorem of_length {i : Instr} {k : Nat} (h : i.kindCode = some k)
    (hl : i.wellFormed = true → payloadLength k = some i.payload.length) : Statement i := fun hw k' hk => by
  rw [h] at hk
  cases hk
  exact hl hw

theorem status : Statement .status := of_length rfl fun _ => rfl
theorem sense : Statement .sense := of_length rfl fun _ => rfl
theorem configure readRetries writeRetries vt rt flipTime r wLo wHi killMode : Statement (.configure readRetries writeRetries vt rt flipTime r wLo wHi killMode) := of_length rfl fun _ => rfl
theorem reset : Statement .reset := of_length rfl fun _ => rfl
theorem mount tag : Statement (.mount tag) := of_length rfl fun _ => rfl
theorem unmount tag options : Statement (.unmount tag options) := of_length rfl fun _ => rfl
theorem flushMap tag : Statement (.flushMap tag) := of_length rfl fun _ => rfl
theorem readMap options : Statement (.readMap options) := of_length rfl fun _ => rfl
theorem read tag lsn count options : Statement (.read tag lsn count options) := of_length rfl fun _ => rfl
theorem write tag lsn count options : Statement (.write tag lsn count options) := of_length rfl fun _ => rfl
theorem erase tag lsn count options : Statement (.erase tag lsn count options) := of_length rfl fun _ => rfl
theorem data (tag lsn : Nat) (bytes : List Byte) : Statement (.data tag lsn bytes) :=
  of_length rfl fun h => by
    simp only [Instr.wellFormed, Bool.and_eq_true, decide_eq_true_eq] at h
    simp [payloadLength, Instr.payload, put3, h.2]
theorem cancel tag : Statement (.cancel tag) := of_length rfl fun _ => rfl
theorem play pageId lsn lineLen lineCount : Statement (.play pageId lsn lineLen lineCount) := of_length rfl fun _ => rfl
theorem stopPlay : Statement .stopPlay := of_length rfl fun _ => rfl
theorem setRecorder invert mirror fill : Statement (.setRecorder invert mirror fill) := of_length rfl fun _ => rfl
theorem setPower kind b g k thetaRef d pmin pmax round : Statement (.setPower kind b g k thetaRef d pmin pmax round) := of_length rfl fun _ => rfl
theorem calcPower zone tempMode temp kind copy : Statement (.calcPower zone tempMode temp kind copy) := of_length rfl fun _ => rfl
theorem refusedFrame frame : Statement (.refusedFrame frame) := of_no_kind rfl
theorem emptyFrame : Statement .emptyFrame := of_no_kind rfl
theorem recordLeavesLane : Statement .recordLeavesLane := of_no_kind rfl
theorem completionEntersQueue : Statement .completionEntersQueue := of_no_kind rfl
theorem replyPlaceHeld : Statement .replyPlaceHeld := of_no_kind rfl
theorem hardwareReset cartridge kill : Statement (.hardwareReset cartridge kill) := of_no_kind rfl
theorem cartridgePresent : Statement .cartridgePresent := of_no_kind rfl
theorem cartridgeAbsent : Statement .cartridgeAbsent := of_no_kind rfl
theorem protectTab isSet : Statement (.protectTab isSet) := of_no_kind rfl
theorem inhibitSecondStage : Statement .inhibitSecondStage := of_no_kind rfl
theorem ejectButton : Statement .ejectButton := of_no_kind rfl
theorem spindleAtSpeed : Statement .spindleAtSpeed := of_no_kind rfl
theorem spindleStopped : Statement .spindleStopped := of_no_kind rfl
theorem spinUpTimerExpiry : Statement .spinUpTimerExpiry := of_no_kind rfl
theorem indexTimerExpiry : Statement .indexTimerExpiry := of_no_kind rfl
theorem temperatureReading value : Statement (.temperatureReading value) := of_no_kind rfl
theorem index : Statement .index := of_no_kind rfl
theorem cancelTakesEffect tag : Statement (.cancelTakesEffect tag) := of_no_kind rfl
theorem orphanRemoval : Statement .orphanRemoval := of_no_kind rfl
theorem sectorMark header : Statement (.sectorMark header) := of_no_kind rfl
theorem sectorEnd outcome : Statement (.sectorEnd outcome) := of_no_kind rfl
theorem mapLoadDecision : Statement .mapLoadDecision := of_no_kind rfl
theorem mountComplete : Statement .mountComplete := of_no_kind rfl
theorem drained : Statement .drained := of_no_kind rfl
theorem flushTakesSlots : Statement .flushTakesSlots := of_no_kind rfl
theorem mapWriteClaimMet : Statement .mapWriteClaimMet := of_no_kind rfl
theorem streamClaimMet : Statement .streamClaimMet := of_no_kind rfl
theorem flushSucceeds : Statement .flushSucceeds := of_no_kind rfl
theorem flushFails : Statement .flushFails := of_no_kind rfl
theorem seekDone : Statement .seekDone := of_no_kind rfl
theorem seekFault : Statement .seekFault := of_no_kind rfl
theorem seekTimerExpiry : Statement .seekTimerExpiry := of_no_kind rfl
theorem recalibrationTimerExpiry : Statement .recalibrationTimerExpiry := of_no_kind rfl
theorem offTrack : Statement .offTrack := of_no_kind rfl
theorem focusLost : Statement .focusLost := of_no_kind rfl
theorem focusRegained : Statement .focusRegained := of_no_kind rfl
theorem refocusTimerExpiry : Statement .refocusTimerExpiry := of_no_kind rfl
theorem magnetSense value : Statement (.magnetSense value) := of_no_kind rfl
theorem flipTimerExpiry : Statement .flipTimerExpiry := of_no_kind rfl
theorem settleTimeoutExpiry : Statement .settleTimeoutExpiry := of_no_kind rfl
theorem lineRequest : Statement .lineRequest := of_no_kind rfl
theorem pageStart : Statement .pageStart := of_no_kind rfl
theorem killAsserted : Statement .killAsserted := of_no_kind rfl
theorem killReleased : Statement .killReleased := of_no_kind rfl
theorem frameLineDroppedAfterReset : Statement .frameLineDroppedAfterReset := of_no_kind rfl

end Sys2Proof.Laws.WireFormat
end

