-- ==== Sys2Proof/Laws/Settle.lean ====
section
/-! SUPPORT. What taking the due internal steps can do, said once: nothing in a quiet state, and nothing beyond what the
internal steps do. -/

namespace Sys2Proof.Machine

/-- In a quiet state there is no internal step to take. -/
theorem settleWithin_of_quiet {s : State} (h : Quiet s) : ∀ n, settleWithin n s = s
  | 0 => rfl
  | n + 1 => by simp only [settleWithin, show takeDue s = none from h]

/-- A quiet state is settled. -/
theorem settle_of_quiet {s : State} (h : Quiet s) : settle s = s := settleWithin_of_quiet h settleBound

/-- A state is quiet exactly when no internal step of the list is due in it. -/
theorem quiet_iff {s : State} : Quiet s ↔ ∀ i ∈ internalSteps, i.due s = false := by
  simp [Quiet, takeDue]

/-- What is taken is one of the internal steps, due in the state. -/
theorem takeDue_some {s t : State} (h : takeDue s = some t) :
    ∃ i ∈ internalSteps, i.due s = true ∧ t = i.effect s := by
  obtain ⟨i, hi, ht⟩ := Option.map_eq_some_iff.mp h
  have hd := List.find?_some (p := fun i : Internal => i.due s) hi
  exact ⟨i, List.mem_of_find?_eq_some hi, hd, ht.symm⟩

/-- What every internal step keeps where it is due, taking them all keeps. -/
theorem settleWithin_keeps {P : State → Prop}
    (h : ∀ i ∈ internalSteps, ∀ s, i.due s = true → P s → P (i.effect s)) :
    ∀ n s, P s → P (settleWithin n s)
  | 0, _, hs => hs
  | n + 1, s, hs => by
      simp only [settleWithin]
      cases ht : takeDue s with
      | none => exact hs
      | some t =>
          obtain ⟨i, hi, hd, rfl⟩ := takeDue_some ht
          exact settleWithin_keeps h n _ (h i hi s hd hs)

/-- What every internal step keeps where it is due, settling keeps. -/
theorem settle_keeps {P : State → Prop} (h : ∀ i ∈ internalSteps, ∀ s, i.due s = true → P s → P (i.effect s))
    (s : State) (hs : P s) : P (settle s) := settleWithin_keeps h settleBound s hs

/-! ### The three ways a command is taken -/

theorem onEvent_of_quiet {s : State} (h : Quiet s) (effect : State → State) : onEvent effect s = .next (effect s) := by
  rw [onEvent, settle_of_quiet h]

/-- In a quiet state no frame is offered to a port that accepts one. -/
theorem offered_of_quiet {s : State} (h : Quiet s) (ha : s.link.accepting = true) : s.link.offered = [] := by
  have hd := quiet_iff.mp h { due := State.offeredDue, effect := State.beginOffered } (by simp [internalSteps])
  simpa [State.offeredDue, ha] using hd

theorem onFrame_of_quiet {s : State} (h : Quiet s) (ha : s.link.accepting = true) (c : Instr) (arrival : State → State) :
    onFrame c arrival s = .next (arrival s) := by
  have ho := offered_of_quiet h ha
  simp only [Link.accepting, Bool.and_eq_true, Bool.not_eq_true'] at ha
  simp [onFrame, settle_of_quiet h, ha.1, ha.2, ho]

/-- A frame that finds no place held is offered. -/
theorem onFrame_of_not_held {s : State} (h : Quiet s) (hw : s.link.frameWait = false) (hh : s.link.held = false)
    (c : Instr) (arrival : State → State) : onFrame c arrival s = .next (s.offer c) := by
  simp [onFrame, settle_of_quiet h, hw, hh]

/-- A frame that finds the port waiting for the frame line to drop is not begun. -/
theorem onFrame_of_frameWait {s : State} (h : Quiet s) (hw : s.link.frameWait = true) (c : Instr)
    (arrival : State → State) : onFrame c arrival s = .next s := by
  simp [onFrame, settle_of_quiet h, hw]

/-- An empty frame takes back the frame offered first, and with none offered changes nothing (R184). -/
theorem withdrawOffered_offer_of_none {s : State} (h : s.link.offered = []) (c : Instr) :
    s.withdrawOffered = s ∧ (s.offer c).withdrawOffered = s := by
  obtain ⟨_, _, _, _, _, _, _, _, _, _, _, _, ⟨_, _, _, _, offered⟩⟩ := s
  obtain rfl : offered = [] := h
  exact ⟨rfl, rfl⟩

theorem onStep_of_due {s : State} {due : State → Bool} (h : due s = true) (effect : State → State) :
    onStep due effect s = .next (effect s) := by
  simp only [onStep, h, if_true]

theorem onStep_of_not_due {s : State} {due : State → Bool} (h : due s = false) (effect : State → State) :
    onStep due effect s = .next s := by
  simp [onStep, h]

end Sys2Proof.Machine
end

