-- ==== Sys2Proof/Tests/Slice0.lean ====
section
/-! SUPPORT. Tests: the smoke test of WellFormed, frames written out by hand from the tables of Chapter 10, the manual's
worked numbers, one step on small states, and for every statement with hypotheses a state and operands that meet them. -/

namespace Sys2Proof.Tests

set_option Elab.async false

open Sys2Proof.Machine

/-! ### Small states -/

/-- An idle part in a mount state: a reply place held, no condition to report. -/
def inState (m : Mount) : State :=
  { State.reset with
    sup := { State.reset.sup with
      mount := m, spindleRun := m.runs, indexTimer := m.indexed, spinUpTimer := decide (m = .spinningUp) }
    link := { occupied := [], held := true, waiting := [], frameWait := false, offered := [] }
    conditions := [] }

/-- The state after a command. -/
def after (c : Instr) (s : State) : State :=
  match exec c s with
  | .next t => t
  | _ => s

/-- A request in OPEN, with no job counted. -/
def request (tag : Nat) (kind : RequestKind) : Request := newRequest tag kind none false 0

/-- A job on a sector of a track, with its slot, three attempts left. -/
def job (id : JobId) (owner : Owner) (kind : JobKind) (lsn : Nat) (track sector : Nat) (phase : Phase) : Job :=
  { id := id, owner := owner, kind := kind, lsn := some lsn, target := ⟨track, sector⟩, phase := phase, attempts := 3
    idFailures := 0, sparesTried := 0, slot := some id, dataPresent := true, touched := false, heldBehind := none
    preErased := false, page := none }

/-- READY with a WRITE of tag 2 whose one job, for LSN 300,000 at its home, stands in a phase, on its track. -/
def writing (phase : Phase) (head : Head) : State :=
  { inState .ready with
    requests := [{ newRequest 2 .write (some (300000, 1)) false 1 with state := .opened }]
    jobs := [job 7 (.tag 2) .hostWrite 300000 13681 4 phase]
    planner := { State.reset.planner with head := head, current := some 13681 }
    magnet := { State.reset.magnet with state := .erase, coil := some .erase } }

/-- READY, REVOLVING on the track of LSN 300,000 with one planned action on sector 4, the mark of sector 4 due. -/
def revolving (action : Action) (phase : Phase) : State :=
  let s := writing phase .revolving
  let plan : Plan := { track := 13681, zone := 11, mutating := action.polarity, actions := [⟨4, action, 7⟩] }
  { s with planner := { s.planner with plan := some plan }, seq := { s.seq with position := 4 } }

/-- A sector's action is under way in that revolution. -/
def underWay (action : Action) (phase : Phase) : State :=
  let s := revolving action phase
  let act : OpenAction := { sector := 4, action := action, job := some 7, gated := action.polarity.isSome }
  { s with seq := { s.seq with openAction := some act, position := 5 } }

/-- A page of three lines of 1,000 bytes, PLAYING or WAITING. -/
def page (started : Bool) : Page :=
  { pageId := 4, startLsn := 257265, lineLen := 1000, lineCount := 3, started := started, abandoned := false, lines := 0
    fillLines := 0, killedLines := 0, failedSectors := 0, lastLine := none }

/-- READY with that page active and a ring of eight free slots that the fetch pointer has left. -/
def playing (started : Bool) : State :=
  let s := inState .ready
  { s with stream := { s.stream with active := some (page started), reserved := true, idleLen := 1000
                                     ringFree := [10, 11, 12, 13, 14, 15, 16, 17] } }

/-- A queue of 32 records, none of them a DONE or a DATA IN. -/
def full : List Record := List.replicate 32 (.taken 0xFF 0x32 0)

/-- A frame's bytes with the parity line of each at its right level. -/
def sent (bytes : List Byte) : List (Byte × Bool) := bytes.map withParity

/-- The three premises of `FrameArrives`, as one test. -/
theorem arrives {s : State} (h : Quiet s ∧ s.link.held = true ∧ s.link.frameWait = false) : FrameArrives s :=
  ⟨h.1, h.2.1, h.2.2⟩

/-! ### WellFormed: each check refuses an ill-formed term -/

theorem test_ill_formed_frames_are_refused :
    [Instr.configure 256 2 4 12 10 32 8 24 0, .configure 3 256 4 12 10 32 8 24 0, .configure 3 2 256 12 10 32 8 24 0,
      .configure 3 2 4 256 10 32 8 24 0, .configure 3 2 4 12 256 32 8 24 0, .configure 3 2 4 12 10 256 8 24 0,
      .configure 3 2 4 12 10 32 256 24 0, .configure 3 2 4 12 10 32 8 256 0, .configure 3 2 4 12 10 32 8 24 256,
      .mount 256, .unmount 256 0, .unmount 0 256, .flushMap 256, .readMap 256, .read 256 0 1 0, .read 0 16777216 1 0,
      .read 0 0 256 0, .read 0 0 1 256, .write 256 0 1 0, .write 0 16777216 1 0, .write 0 0 256 0, .write 0 0 1 256,
      .erase 256 0 1 0, .erase 0 16777216 1 0, .erase 0 0 256 0, .erase 0 0 1 256, .cancel 256].all
      (fun i => !i.wellFormed) = true := by decide

theorem test_ill_formed_settings_are_refused :
    [Instr.play 256 0 16 1, .play 0 16777216 16 1, .play 0 0 65536 1, .play 0 0 16 65536, .setRecorder 256 0 0,
      .setRecorder 0 256 0, .setRecorder 0 0 256, .setPower 256 0 0 0 0 0 0 0 0, .setPower 0 65536 0 0 0 0 0 0 0,
      .setPower 0 0 32768 0 0 0 0 0 0, .setPower 0 0 (-32769) 0 0 0 0 0 0, .setPower 0 0 0 32768 0 0 0 0 0,
      .setPower 0 0 0 0 (-32769) 0 0 0 0, .setPower 0 0 0 0 0 256 0 0 0, .setPower 0 0 0 0 0 0 65536 0 0,
      .setPower 0 0 0 0 0 0 0 65536 0, .setPower 0 0 0 0 0 0 0 0 256, .calcPower 256 0 0 0 0, .calcPower 0 256 0 0 0,
      .calcPower 0 0 32768 0 0, .calcPower 0 0 0 256 0, .calcPower 0 0 0 0 256].all (fun i => !i.wellFormed) = true := by
  decide

theorem test_ill_formed_events_are_refused :
    [Instr.data 0 0 [], .data 256 0 zeroBytes, .data 0 16777216 zeroBytes, .refusedFrame [], .cancelTakesEffect 16,
      .sectorEnd (.good 17 (.user zeroBytes)), .sectorEnd (.good 0 (.user [])),
      .sectorEnd (.good 0 (.image ⟨0, 0, 1, []⟩))].all (fun i => !i.wellFormed) = true := by decide

/-! ### Frames written out from the tables of R198 and R200 -/

theorem test_link_frames_are_read :
    decodeFrame [0x01, 0xFF, 0x00, 0x00] = some .status ∧ decodeFrame [0x02, 0xFF, 0x00, 0x00] = some .sense ∧
    decodeFrame [0x04, 0x00, 0x00, 0x00] = some .reset ∧
    decodeFrame [0x03, 0xFF, 0x00, 0x09, 0x03, 0x02, 0x0A, 0x06, 0x0A, 0xC8, 0x96, 0x02, 0x00] =
      some (.configure 3 2 10 6 10 200 150 2 0) := by decide

theorem test_cartridge_frames_are_read :
    decodeFrame [0x10, 0x05, 0x00, 0x00] = some (.mount 5) ∧
    decodeFrame [0x11, 0x07, 0x00, 0x01, 0x01] = some (.unmount 7 1) ∧
    decodeFrame [0x12, 0x01, 0x00, 0x00] = some (.flushMap 1) ∧
    decodeFrame [0x13, 0xFF, 0x00, 0x01, 0x01] = some (.readMap 1) := by decide

theorem test_request_frames_are_read :
    decodeFrame [0x20, 0x06, 0x00, 0x05, 0x04, 0x93, 0xE0, 0x40, 0x00] = some (.read 6 300000 64 0) ∧
    decodeFrame [0x21, 0x02, 0x00, 0x05, 0x03, 0x0D, 0x40, 0x01, 0x01] = some (.write 2 200000 1 1) ∧
    decodeFrame [0x22, 0x0F, 0x00, 0x05, 0x07, 0x14, 0xFF, 0x01, 0x00] = some (.erase 15 464127 1 0) ∧
    decodeFrame [0x24, 0x10, 0x00, 0x00] = some (.cancel 16) := by decide

theorem test_data_frame_is_read :
    decodeFrame ([0x23, 0x02, 0x04, 0x03, 0x04, 0x93, 0xE0] ++ List.replicate 1024 0xA5) =
      some (.data 2 300000 (List.replicate 1024 0xA5)) := by
  decide +kernel

theorem test_page_frames_are_read :
    decodeFrame [0x30, 0xFF, 0x00, 0x08, 0x04, 0x03, 0xEC, 0xF1, 0x03, 0xE8, 0x00, 0x03] = some (.play 4 257265 1000 3) ∧
    decodeFrame [0x31, 0xFF, 0x00, 0x00] = some .stopPlay ∧
    decodeFrame [0x32, 0xFF, 0x00, 0x03, 0x01, 0x00, 0x02] = some (.setRecorder 1 0 2) := by decide

theorem test_power_frames_are_read :
    decodeFrame [0x40, 0xFF, 0x00, 0x0F, 0x02, 0x02, 0x08, 0x01, 0x40, 0xFF, 0xB0, 0x00, 0x64, 0x04, 0x00, 0xF0, 0x02,
      0x08, 0x00] = some (.setPower 2 520 320 (-80) 100 4 240 520 0) ∧
    decodeFrame [0x41, 0xFF, 0x00, 0x06, 0x0B, 0x00, 0xFF, 0x60, 0x02, 0x01] = some (.calcPower 11 0 (-160) 2 1) := by
  decide

theorem test_frames_of_wrong_length_or_kind_are_not_read :
    decodeFrame [0x20, 0x06, 0x00, 0x05, 0x04, 0x93, 0xE0, 0x40] = none ∧ decodeFrame [0x01, 0xFF, 0x00] = none ∧
    decodeFrame [0x01, 0xFF, 0x00, 0x01, 0x00] = none ∧ decodeFrame [0x80, 0xFF, 0x00, 0x03, 0x10, 0x00, 0x00] = none := by
  decide

/-! ### The manual's worked numbers -/

/-- The worked cases of the home translation (Chapter 1). -/
theorem test_home_translation :
    home 0 = ⟨0, 0⟩ ∧ home 20127 = ⟨1183, 16⟩ ∧ home 20128 = ⟨1200, 0⟩ ∧ home 200000 = ⟨9832, 24⟩ ∧
    home 300000 = ⟨13681, 4⟩ ∧ home 464127 = ⟨19183, 31⟩ := by decide

/-- The search orders of R145. -/
theorem test_spare_search_order :
    bandOrder 0 = [0, 1, 2, 3, 4, 5, 6, 7, 8, 9, 10, 11, 12, 13, 14, 15] ∧
    bandOrder 8 = [8, 9, 7, 10, 6, 11, 5, 12, 4, 13, 3, 14, 2, 15, 1, 0] ∧
    bandOrder 15 = [15, 14, 13, 12, 11, 10, 9, 8, 7, 6, 5, 4, 3, 2, 1, 0] := by decide

/-- The WRITE setpoint of Chapter 7 at ordinary values, in both rounding modes. -/
theorem test_write_setpoint :
    let c (m : Rounding) : Coefficients :=
      { b := 512, g := 640, k := -95, thetaRef := 100, d := 4, pmin := 120, pmax := 900, round := m }
    (compute (c .nearest) 9 ⟨some 164, false⟩).acc = 130752 ∧ (compute (c .nearest) 9 ⟨some 164, false⟩).code = 511 ∧
    (compute (c .truncate) 9 ⟨some 164, false⟩).code = 510 := by decide

/-- Halves go to the even integer, and truncation goes toward zero (R131). -/
theorem test_rounding :
    scaled .nearest 640 = 2 ∧ scaled .nearest 896 = 4 ∧ scaled .nearest (-384) = -2 ∧ scaled .nearest (-640) = -2 ∧
    scaled .truncate (-384) = -1 ∧ scaled .nearest 8388607 = 32768 ∧ scaled .truncate 8388607 = 32767 := by decide

/-- The CONFIGURE of R195: Rt, R, W_lo and W_hi are clamped. -/
theorem test_configure_example :
    (after (.configure 3 2 10 6 10 200 150 2 0) (inState .loaded)).cfg =
      { readRetries := 3, writeRetries := 2, vt := 10, rt := 10, flipTime := 10, ringSize := 128, wLo := 127, wHi := 128
        killMode := .level } ∧
    (after (.configure 3 2 10 6 10 200 150 2 0) (inState .loaded)).link.occupied = [.taken 0xFF 0x03 0b11101000] := by
  decide

/-- The STATUS REPORT after hardware reset, byte by byte from R202. -/
theorem test_status_report_bytes :
    (Record.statusReport State.reset.statusReport).payload =
      [0, 0, 0, 0xFF, 0xFF, 0, 0, 0, 0, 0, 0x01, 0x00, 0, 0, 0, 0, 0, 0, 40, 0, 240, 0, 240, 0, 0, 0, 0, 0, 0, 0, 1] := by
  decide +kernel

/-- The mirror and the inversion of a line (R172), worked by hand. -/
theorem test_line_transforms :
    transformLine ⟨false, true, .white⟩ [0x03, 0x10] = [0x08, 0xC0] ∧
    transformLine ⟨true, true, .white⟩ [0x03, 0x10] = [0xF7, 0x3F] := by decide

/-! ### States and operands that meet the hypotheses of the statements: the machine and the link -/

theorem witness_StepTakesTheFrontCommand :
    ({ inState .ready with pending := [.status] } : State).pending = .status :: [] ∧ (inState .ready).pending = [] ∧
    Quiet (inState .ready) := by decide

/-- A part whose link has one frame offered, and its places as given. -/
def offering (occupied : List Record) (held : Bool) : State :=
  { inState .ready with
    link := { occupied := occupied, held := held, waiting := [], frameWait := false, offered := [.status] } }

theorem witness_FrameWithoutReplyPlaceIsNotBegun :
    (Quiet { inState .ready with link := { occupied := full, held := false, waiting := [], frameWait := false, offered := [] } } ∧
      Instr.status.kindCode.isSome = true) ∧
    (Quiet { inState .ready with link := { occupied := [], held := true, waiting := [], frameWait := true, offered := [] } } ∧
      Instr.status.kindCode.isSome = true) ∧
    ((offering [] true).link.offered = [.status] ∧
      FrameArrives { offering [] true with link := { (offering [] true).link with offered := [] } }) :=
  ⟨by decide, by decide, rfl, arrives (by decide)⟩

/-- R186: a frame offered while the queue is full waits there, and is answered once a record has left. -/
theorem test_offered_frame_is_begun_when_a_place_is_held :
    (after .index (offering full false)).link.offered = [.status] ∧
    (let t := settle (after .recordLeavesLane (offering full false))
     t.link.offered = [] ∧ t.link.occupied.length = 32 ∧ t.link.occupied.getLast?.map Record.kind = some 0x90) := by
  decide +kernel

/-- R184: a frame strobed while no place is held, and dropped with no byte taken, is no frame: a place is free again and nothing
is dispatched. -/
theorem test_empty_frame_withdraws_the_offered_one :
    let t := after .recordLeavesLane (after .emptyFrame (offering full false))
    t.link.offered = [] ∧ (settle t).link.occupied.length = 31 ∧ (settle t).link.held = true := by decide +kernel

theorem witness_StepKeepsMountStateLaws :
    FollowsMount { inState .ready with pending := [.cartridgeAbsent] } ∧
    RestsWhileStopped { inState .loaded with pending := [.mount 3] } ∧
    ∃ t u, step { inState .ready with pending := [.cartridgeAbsent] } = .next t ∧
      step { inState .loaded with pending := [.mount 3] } = .next u :=
  ⟨⟨rfl, rfl, rfl⟩, ⟨fun _ => rfl, fun _ => rfl, fun _ => rfl, fun _ => rfl⟩, _, _, rfl, rfl⟩

/-- The WRITE of tag 2 in its place in every table, an index in the queue. -/
def agreeing : State :=
  { writing .needErase .settled with pool := allSlots.filter (fun x => decide (x ≠ 7)), pending := [.index] }

theorem witness_StepKeepsTableLaws :
    HoldsOnce agreeing ∧ agreeing.remap.Lawful ∧ TablesAgree agreeing ∧ ∃ t, step agreeing = .next t := by
  refine ⟨⟨by decide, by decide, by decide, by decide⟩, ⟨by decide, by decide⟩,
    ⟨⟨rfl, rfl, rfl⟩, ⟨by decide, by decide, by decide, by decide, by decide⟩,
      ⟨by decide, fun j h => ?_, by decide, by decide, by decide⟩,
      ⟨by decide, ⟨by decide, by decide⟩, by decide, fun e h => ?_⟩, ⟨fun f h => ?_, fun f h => ?_, by decide, fun f h => ?_, by decide⟩,
      ⟨by decide, by decide, by decide⟩, by decide +kernel⟩, _, rfl⟩
  · rw [List.mem_singleton.mp h]
    exact ⟨⟨rfl, rfl, rfl⟩, by decide, by decide⟩
  all_goals cases h

theorem witness_StepKeepsValuesInRange :
    ValuesInRange { inState .loaded with pending := [.temperatureReading (some 500)] } ∧
    ∃ t, step { inState .loaded with pending := [.temperatureReading (some 500)] } = .next t :=
  ⟨⟨⟨by decide, by decide, by decide, by decide, by decide, by decide, by decide, by decide⟩,
      ⟨fun _ h => by simp [inState, State.reset, Supervisor.reset] at h, fun _ => rfl⟩,
      ⟨⟨⟨by decide, by decide⟩, ⟨by decide, by decide⟩, by decide⟩, ⟨⟨by decide, by decide⟩, ⟨by decide, by decide⟩, by decide⟩,
        ⟨⟨by decide, by decide⟩, ⟨by decide, by decide⟩, by decide⟩⟩⟩, _, rfl⟩

theorem witness_StepKeepsMagnetAndHeadLaws :
    (writing .needErase .settled).magnet.Lawful ∧ (writing .needErase .settled).planner.Lawful ∧
    ∃ t, step { writing .needErase .settled with pending := [.index] } = .next t :=
  ⟨⟨rfl, rfl, rfl⟩, ⟨rfl, rfl, rfl⟩, _, rfl⟩

theorem witness_StepKeepsQueueAndMemoryLaws :
    ({ inState .ready with link := { occupied := full, held := false, waiting := [], frameWait := false, offered := [] } } : State).link.Lawful ∧
    ({ inState .ready with sram := [(0, 1), (262143, 255)] } : State).sram.wf ∧
    ∃ t, step { inState .ready with sram := [(0, 1), (262143, 255)], pending := [.lineRequest] } = .next t :=
  ⟨by unfold Link.Lawful; decide, by decide, _, rfl⟩

theorem witness_FramesReadBack :
    (Instr.write 2 200000 1 1).wellFormed = true ∧ (Instr.write 2 200000 1 1).kindCode.isSome = true ∧
    encodeFrame (.write 2 200000 1 1) = some [0x21, 0x02, 0x00, 0x05, 0x03, 0x0D, 0x40, 0x01, 0x01] := by decide

theorem witness_RefusedFrameIsAnsweredByTheFirstFailedCheck :
    FrameArrives (inState .empty) ∧
    (∃ b ∈ [((0x01 : Byte), true)], oddParity b = false) ∧
    ((∀ b ∈ sent [0x80], oddParity b = true) ∧ payloadLength 0x80 = none) ∧
    ((∀ b ∈ sent [0x01, 0xFF, 0x00], oddParity b = true) ∧ payloadLength 0x01 = some 0 ∧ (sent [0x01, 0xFF, 0x00]).length < 4) ∧
    ((∀ b ∈ sent [0x13, 0xFF, 0x00, 0x01], oddParity b = true) ∧ payloadLength 0x13 = some 1 ∧
      (sent [0x13, 0xFF, 0x00, 0x01]).length - 4 ≠ 1) ∧
    ((∀ b ∈ sent [0x01, 0xFF, 0x00, 0x01, 0x07], oddParity b = true) ∧ payloadLength 0x01 = some 0 ∧ 1 ≠ 0) :=
  ⟨arrives (by decide), by decide +kernel, by decide +kernel, by decide +kernel, by decide +kernel, by decide +kernel⟩

theorem witness_OutboundPlacesGoInOrder :
    let r : Record := .taken 0xFF 0x32 0
    let last : Link := { occupied := List.replicate 31 r, held := false, waiting := [r], frameWait := false, offered := [] }
    (last.waiting = r :: [] ∧ last.occupied.length + (if last.held then 1 else 0) < 32) ∧
    (({ last with waiting := [] } : Link).waiting = [] ∧ last.held = false ∧ last.occupied.length < 32) ∧
    32 ≤ ({ last with held := true } : Link).occupied.length + (if ({ last with held := true } : Link).held then 1 else 0) ∧
    last.waiting ≠ [] ∧ ({ last with held := true } : Link).held = true ∧ 32 ≤ full.length := by decide

theorem witness_LeavingRecordFreesWhatItHolds :
    Quiet (inState .ready) ∧ (inState .ready).link.occupied = [] ∧
    (let s : State := { inState .ready with
       link := { occupied := [.done 3 .complete .none ⟨1, 0, 0, 0, 0⟩ none], held := true, waiting := [], frameWait := false, offered := [] }
       requests := [{ request 3 .read with state := .ended }] }
     Quiet s ∧ s.link.occupied = .done 3 .complete .none ⟨1, 0, 0, 0, 0⟩ none :: []) ∧
    (let s : State := { inState .ready with
       link := { occupied := [.dataIn 3 9 false 0 5 []], held := true, waiting := [], frameWait := false, offered := [] }
       requests := [request 3 .read] }
     Quiet s ∧ s.link.occupied = .dataIn 3 9 false 0 5 [] :: [] ∧ s.request? 3 = some (request 3 .read) ∧
       (request 3 .read).kind = .read ∧ (request 3 .read).state ≠ .ended) ∧
    (let s : State := { inState .ready with
       link := { occupied := [.dataIn 3 9 false 0 5 []], held := true, waiting := [], frameWait := false, offered := [] }
       requests := [{ request 3 .read with state := .ended }] }
     Quiet s ∧ s.link.occupied = .dataIn 3 9 false 0 5 [] :: [] ∧ ∀ q, s.request? 3 = some q → q.state = .ended) ∧
    (let s : State := { inState .ready with
       link := { occupied := [.taken 3 0x20 0], held := true, waiting := [], frameWait := false, offered := [] } }
     Quiet s ∧ s.link.occupied = .taken 3 0x20 0 :: [] ∧ (Record.taken 3 0x20 0).kind ≠ 0x82 ∧
       (Record.taken 3 0x20 0).kind ≠ 0x83) := by
  refine ⟨by decide, by decide, by decide, by decide, ⟨by decide, by decide, fun q h => ?_⟩, by decide⟩
  obtain rfl := Option.some.inj h
  rfl

/-- The hypotheses of StatusAndSenseReportLiveValues, ConfigureClampsInOrder, SoftResetActsBlockByBlock and
HardwareResetAndTheFrameLine, in every mount state they distinguish. -/
theorem witness_frames_arrive_in_every_mount_state :
    FrameArrives (inState .empty) ∧ FrameArrives (inState .loaded) ∧ FrameArrives (inState .spinningUp) ∧
    FrameArrives (inState .mapping) ∧ FrameArrives (inState .ready) ∧ FrameArrives { inState .unmounting with requests := [request 3 .read] } ∧
    FrameArrives (inState .flushing) ∧ FrameArrives (inState .spinningDown) := by
  refine ⟨arrives ?_, arrives ?_, arrives ?_, arrives ?_, arrives ?_, arrives ?_, arrives ?_, arrives ?_⟩
  all_goals decide

/-! ### Witnesses: cartridge handling -/

theorem witness_MountBeginsInLoaded :
    FrameArrives (inState .loaded) ∧ 16 ≤ 16 ∧ 15 < 16 ∧ (∀ r ∈ (inState .loaded).requests, r.tag ≠ 15) ∧
    (FrameArrives { inState .ready with requests := [request 15 .read] } ∧ ∃ r ∈ [request 15 .read], r.tag = 15) ∧
    (FrameArrives (inState .empty) ∧ (inState .empty).sup.mount = .empty) ∧
    (FrameArrives (inState .ready) ∧ (inState .ready).sup.mount ≠ .empty ∧ (inState .ready).sup.mount ≠ .loaded) :=
  ⟨arrives (by decide), by decide, by decide, by decide, ⟨arrives (by decide), by decide⟩, ⟨arrives (by decide), by decide⟩,
    ⟨arrives (by decide), by decide⟩⟩

theorem witness_UnmountBeginsInReady :
    let busy : State := { inState .unmounting with requests := [request 3 .read] }
    FrameArrives (inState .ready) ∧ 16 ≤ 16 ∧ 15 < 16 ∧ (∀ r ∈ (inState .ready).requests, r.tag ≠ 15) ∧
    (inState .ready).sup.mount = .ready ∧
    (FrameArrives busy ∧ (∃ r ∈ busy.requests, r.tag = 3) ∧ (∀ r ∈ busy.requests, r.tag ≠ 15) ∧ busy.sup.mount ≠ .empty ∧
      busy.sup.mount ≠ .loaded ∧ busy.sup.mount ≠ .ready) ∧
    (FrameArrives (inState .loaded) ∧ (inState .loaded).sup.mount = .loaded) :=
  ⟨arrives (by decide), by decide, by decide, by decide, by decide, ⟨arrives (by decide), by decide⟩,
    ⟨arrives (by decide), by decide⟩⟩

theorem witness_CartridgePresentAndEjectButton :
    Quiet (inState .empty) ∧ Quiet (inState .loaded) ∧ Quiet (inState .ready) ∧ Quiet (inState .mapping) ∧
    (inState .mapping).sup.mount ≠ .loaded ∧ (inState .mapping).sup.mount ≠ .ready := by decide

theorem witness_RemovalEndsAllWork :
    Quiet (writing .needErase .settled) ∧ ((writing .needErase .settled).requests.map Request.tag).Nodup ∧
    (writing .needErase .settled).sup.mount ≠ .empty ∧ (writing .needErase .settled).sup.mount ≠ .loaded ∧
    Quiet (inState .empty) ∧ Quiet (inState .loaded) := by decide

theorem witness_FaultTimersSpinDown :
    (let s := writing .needErase .settled
     Quiet s ∧ (s.requests.map Request.tag).Nodup ∧ s.sup.indexTimer = true ∧ s.seq.refocusTimer = false) ∧
    (let s : State := { writing .needErase .refocusing with seq := { State.reset.seq with refocusTimer := true } }
     Quiet s ∧ (s.requests.map Request.tag).Nodup ∧ s.seq.refocusTimer = true) ∧
    Quiet (inState .loaded) ∧ (inState .loaded).sup.indexTimer = false := by decide

theorem witness_SpindleStopsAndFailedSpinUps :
    (Quiet (writing .needErase .settled) ∧ (writing .needErase .settled).sup.mount = .ready) ∧
    (let s : State := { inState .spinningDown with
       requests := [request 5 .unmount]
       sup := { (inState .spinningDown).sup with unmountCtx := some { tag := some 5, eject := true, result := none } } }
     Quiet s ∧ (s.requests.map Request.tag).Nodup ∧ s.sup.mount = .spinningDown ∧
       s.sup.unmountCtx = some { tag := some 5, eject := true, result := none } ∧ s.request? 5 = some (request 5 .unmount)) ∧
    (Quiet (inState .spinningDown) ∧ (inState .spinningDown).sup.unmountCtx.bind UnmountContext.tag = none) ∧
    (let m : MountContext := { tag := 5, mapLeg := false, magnetLeg := false, reason := none }
     let s : State := { inState .spinningUp with
       requests := [request 5 .mount], sup := { (inState .spinningUp).sup with mountCtx := some m } }
     Quiet s ∧ s.sup.mountCtx = some m ∧ s.request? 5 = some (request 5 .mount) ∧ (s.requests.map Request.tag).Nodup ∧
       s.jobs = [] ∧ s.sup.spinUpTimer = true ∧ s.sup.mount = .spinningUp ∧ s.sup.unmountCtx = none) := by decide

theorem witness_SpindleAtSpeedStartsBothLegs :
    (Quiet (inState .spinningUp) ∧ (inState .spinningUp).sup.mount = .spinningUp ∧ (inState .spinningUp).jobs = [] ∧
      (inState .spinningUp).magnet.state = .unset) ∧
    Quiet (inState .ready) ∧ (inState .ready).sup.mount ≠ .spinningUp := by decide

/-- READY with a full job table and a flush that holds its 17 slots and claims the entries of sectors 0–15. -/
def claiming : State :=
  let s := inState .ready
  { s with
    requests := [newRequest 5 .flushMap none false 17]
    jobs := (List.range 256).map fun k => { job 0 (.tag 2) .hostErase (300000 + k) 13681 4 .needErase with
      id := Fin.ofNat 256 k, slot := none }
    pool := (allSlots.drop 17)
    remap := { s.remap with
      dirty := true
      flush := some { owner := some 5, phase := .writing0to15, sectors := (allSlots.take 17).map .waiting, images := []
                      stale := false } } }

/-- R30, R154: TAB enters while the claims wait: sectors 0–15 FAILED, their slots free, the second stage due at once. -/
theorem test_tab_withdraws_the_claims :
    let t := after (.protectTab true) claiming
    Quiet claiming ∧ .tab ∉ claiming.sup.inhibit ∧ claiming.sup.mount.mounted = true ∧
    t.pool.drop 239 = allSlots.take 16 ∧ t.sup.secondStage = .now ∧
    t.requests.map (fun r => (r.failed, r.outstanding, r.firstFailure)) = [(16, 1, some (none, .writeInhibited))] ∧
    t.remap.flush.map FlushContext.sectors = some (List.replicate 16 (.failed .writeInhibited) ++ [.waiting 16]) := by
  decide +kernel

theorem witness_ProtectTabIsSampledWhileMounted :
    (Quiet (inState .mapping) ∧ (inState .mapping).sup.mount.mounted = false) ∧
    (Quiet (inState .ready) ∧ (inState .ready).sup.mount.mounted = true ∧ .tab ∉ (inState .ready).sup.inhibit ∧
      (inState .ready).remap.flush = none) ∧
    (let s : State := { inState .ready with sup := { (inState .ready).sup with inhibit := [.tab] } }
     Quiet s ∧ s.sup.mount.mounted = true ∧ .tab ∈ s.sup.inhibit) := by decide

/-- READY with the second stage due: the write of tag 2 on a spare, a read held behind it, and a flush in its first pass that
is writing sector 4. -/
def staged (inhibit : List Inhibit) : State :=
  let s := writing .written .settled
  { s with
    sup := { s.sup with secondStage := .now, inhibit := inhibit }
    requests := s.requests ++ [{ request 3 .read with outstanding := 1 }, newRequest 5 .flushMap none false 17]
    jobs := [{ job 7 (.tag 2) .hostWrite 300000 14384 0 .written with sparesTried := 1 },
      { job 9 (.tag 3) .hostRead 300000 14384 0 .held with heldBehind := some 7 },
      { job 11 .map .mapWrite 0 19200 4 .needErase with lsn := none }]
    remap := { s.remap with
      entries := [.pending 300000 ⟨14384, 0⟩ 7], dirty := true
      flush := some { owner := some 5, phase := .writing0to15, images := [], stale := false
                      sectors := (List.replicate 17 .done).set 4 .writing } } }

theorem staged_flush_agrees (inhibit : List Inhibit) : FlushAgrees (staged inhibit) := by
  have writing : ∀ j ∈ (staged []).jobs, j.kind = .mapWrite →
      ((List.replicate 17 FlushSector.done).set 4 .writing)[j.target.sector]? = some .writing := by decide
  refine ⟨fun f h => ?_, fun f h => ?_, fun j h k => ⟨_, rfl, writing j h k⟩, fun f h => ?_,
    (by decide : (staged []).jobs.Pairwise _)⟩
  · obtain rfl := Option.some.inj h
    exact ⟨.inl rfl, newRequest 5 .flushMap none false 17, (by decide : _ ∈ (staged []).requests), rfl, rfl, by decide⟩
  · obtain rfl := Option.some.inj h
    decide
  · obtain rfl := Option.some.inj h
    intro _ k hk
    rcases Nat.lt_or_ge k 17 with h | h
    · obtain rfl : k = 16 := by omega
      decide
    · rw [List.getElem?_eq_none (by simpa using h)]
      decide

theorem witness_SecondStageEndsEveryWriter :
    ((staged [.tab]).sup.secondStage = .now ∧ ((staged [.tab]).jobs.map Job.id).Nodup ∧
      (staged [.tab]).sup.inhibit = .tab :: []) ∧
    (staged [.magnetFault, .tab]).sup.inhibit = .magnetFault :: [.tab] ∧ (staged []).sup.inhibit = [] ∧
    FlushAgrees (staged [.tab]) :=
  ⟨by decide, by decide, by decide, staged_flush_agrees _⟩

/-- R30, R47, R156: the write is counted FAILED and its PENDING entry dropped, the read behind it goes home again, and the
flush records the sector that was being written. -/
theorem test_second_stage_releases_reads_and_records_sectors :
    let t := after .inhibitSecondStage (staged [.magnetFault, .tab])
    t.jobs.map (fun j => (j.id, j.phase, j.target)) = [(9, .needRead, ⟨13681, 4⟩)] ∧ t.remap.entries = [] ∧
    t.remap.flush.map (fun f => f.sectors[4]?) = some (some (.failed .magnetFault)) ∧
    t.requests.map Request.failed = [1, 0, 1] ∧ t.pool.drop 256 = [7, 11] := by decide +kernel

theorem witness_TemperatureReadings :
    Quiet (inState .loaded) ∧ ((-160 : Int) ≤ -160 ∧ (-160 : Int) ≤ 500) ∧
    (∀ v : Int, some (501 : Int) = some v → v < -160 ∨ 500 < v) ∧ (∀ v : Int, (none : Option Int) = some v → v < -160 ∨ 500 < v) := by
  refine ⟨by decide, by decide, fun v h => ?_, fun v h => ?_⟩
  · cases h; decide
  · cases h

theorem witness_MountCompletesWhenBothLegsEnd :
    let m : MountContext := { tag := 5, mapLeg := true, magnetLeg := true, reason := some .mapDamaged }
    let s : State := { inState .mapping with
      requests := [request 5 .mount], sup := { (inState .mapping).sup with mountCtx := some m, tabInput := true } }
    s.sup.mount = .mapping ∧ s.sup.mountCtx = some m ∧ m.mapLeg = true ∧ m.magnetLeg = true ∧
      s.request? m.tag = some (request 5 .mount) ∧ (request 5 .mount).state = .opened ∧
      (request 5 .mount).abortReason = none ∧ (request 5 .mount).failed = 0 ∧ s.sup.tabInput = true := by decide

theorem witness_DrainedDecidesTheUnmount :
    let ctx : UnmountContext := { tag := some 5, eject := false, result := none }
    let s : State := { inState .unmounting with
      requests := [request 5 .unmount, { request 3 .read with state := .ended }]
      sup := { (inState .unmounting).sup with unmountCtx := some ctx } }
    s.sup.mount = .unmounting ∧ s.jobs = [] ∧ s.stream.active = none ∧ s.stream.pendingPage = none ∧
      (∀ r ∈ s.requests, r.state = .ended ∨ (s.sup.unmountCtx = some ctx ∧ ctx.tag = some r.tag)) ∧
      s.remap.dirty = false ∧ s.sup.inhibit = [] ∧
      ({ s with remap := { s.remap with dirty := true } } : State).remap.dirty = true ∧
      ({ s with sup := { s.sup with inhibit := [.tab] } } : State).sup.inhibit ≠ [] := by decide

/-! ### Witnesses: requests and jobs -/

theorem witness_SpanCommandsAreRefusedInOrder :
    let r := inState .ready
    FrameArrives r ∧ spanRefusal .read 16 0 1 0 r = some .badParameter ∧
    spanRefusal .read 3 0 1 0 { r with requests := [request 3 .read] } = some .tagBusy ∧
    spanRefusal .read 15 0 1 0 (inState .flushing) = some .unmounting ∧
    spanRefusal .read 15 0 1 0 (inState .loaded) = some .notMounted ∧
    spanRefusal .erase 15 0 1 0 { r with sup := { r.sup with inhibit := [.tab] } } = some .writeInhibited ∧
    spanRefusal .write 15 0 0 0 r = some .badParameter ∧ spanRefusal .write 15 0 65 0 r = some .badParameter ∧
    spanRefusal .read 15 0 1 1 r = some .badParameter ∧ spanRefusal .write 15 464127 2 0 r = some .range ∧
    spanRefusal .read 15 0 1 0 { r with pool := [] } = some .bufferFull ∧
    spanRefusal .erase 15 0 1 0 { r with jobs := List.replicate 256 (job 0 .map .mapRead 0 0 0 .needRead) } =
      some .tableFull :=
  ⟨arrives (by decide), by decide, by decide, by decide, by decide, by decide, by decide, by decide, by decide, by decide,
    by decide, by decide +kernel⟩

theorem witness_SpanCommandsAreAccepted :
    FrameArrives (inState .ready) ∧ spanRefusal .read 15 464064 64 0 (inState .ready) = none ∧
    spanRefusal .write 0 0 1 1 (inState .ready) = none ∧ spanRefusal .erase 7 464127 1 0 (inState .ready) = none :=
  ⟨arrives (by decide), by decide +kernel, by decide +kernel, by decide +kernel⟩

/-- A read behind the younger of two writes of its LSN and a read, two reads, an LSN with an ACTIVE entry and one without. -/
theorem witness_SpanCommandsAreAccepted_holders :
    let w (id : JobId) := job id (.tag 2) .hostWrite 300000 13681 4 .needErase
    let r (id : JobId) (lsn : Nat) := job id (.tag 3) .hostRead lsn 13681 4 .needRead
    [w 1, w 2, r 3 300000, w 4, r 5 300001] = [w 1, w 2, r 3 300000] ++ w 4 :: [r 5 300001] ∧
    holder [w 1, w 2, r 3 300000, w 4, r 5 300001] (r 6 300000) = some 4 ∧
    holder [r 3 300000, r 5 300001] (w 6) = some 3 ∧ holder [r 3 300000, w 4] (r 6 300001) = none ∧
    (let e : List Entry := [.active 300000 ⟨14384, 0⟩]
     .active 300000 ⟨14384, 0⟩ ∈ e ∧ (∀ x ∈ e, x.isActiveOf 300000 = true → x = .active 300000 ⟨14384, 0⟩) ∧
       ∀ x ∈ e, x.isActiveOf 299999 = false) := by decide

theorem witness_DataFillsTheJobsSlot :
    let s := writing .needErase .settled
    let r : Request := newRequest 2 .write (some (300000, 1)) false 1
    let waits : State := { s with jobs := s.jobs.map fun j => { j with dataPresent := false } }
    FrameArrives s ∧ s.request? 3 = none ∧
    (s.request? 2 = some r ∧ r.kind = .write ∧ r.state = .opened ∧ r.span = some (300000, 1)) ∧
    ((300001 < 300000 ∨ 300000 + 1 ≤ 300001) ∧ (299999 < 300000 ∨ 300000 + 1 ≤ 299999)) ∧
    ((s.jobOf 2 300000).map Job.dataPresent = some true) ∧
    (FrameArrives waits ∧ (waits.jobOf 2 300000).map (fun j => (j.dataPresent, j.slot)) = some (false, some 7)) ∧
    ({ s with jobs := [] } : State).jobOf 2 300000 = none :=
  ⟨arrives (by decide), by decide, by decide, by decide, by decide, ⟨arrives (by decide), by decide⟩, by decide⟩

theorem witness_CancelMarksAndRemoves :
    (let s := writing .needErase .settled
     FrameArrives s ∧ (s.requests.map Request.tag).Nodup ∧ 16 ≤ 16 ∧ (∀ r ∈ s.requests, r.tag ≠ 15) ∧
       (∃ r ∈ s.requests, r.tag = 2 ∧ r.kind = .write ∧ r.state = .opened)) ∧
    (let s : State := { inState .mapping with requests := [request 15 .mount, { request 0 .erase with state := .ended }] }
     FrameArrives s ∧ (s.requests.map Request.tag).Nodup ∧ (∃ r ∈ s.requests, r.tag = 15 ∧ r.kind = .mount) ∧
       ∃ r ∈ s.requests, r.tag = 0 ∧ r.kind = .erase ∧ r.state ≠ .opened) ∧
    (let r : Request := { newRequest 2 .write (some (300000, 1)) false 1 with state := .cancelling }
     let s : State := { writing .needErase .settled with requests := [r] }
     s.planner.head ≠ .revolving ∧ r ∈ s.requests ∧ r.tag = 2 ∧ r.state = .cancelling ∧
       (∃ j ∈ s.jobs, j.owner = .tag 2) ∧ (s.jobs.map Job.id).Nodup ∧
       ∀ j ∈ s.jobs, j.owner = .tag 2 → j.kind = .hostRead ∨ j.kind = .hostWrite ∨ j.kind = .hostErase) :=
  ⟨⟨arrives (by decide), by decide⟩, ⟨arrives (by decide), by decide⟩, by decide⟩

theorem witness_CountersAndDoneFollowTheTables :
    let r : Request := { request 2 .write with failed := 1, firstFailure := some (some 9, .spareLimit) }
    (({ r with abortReason := some .headFault } : Request).abortReason = some .headFault) ∧ r.abortReason = none ∧
    ({ r with state := .cancelling } : Request).state = .cancelling ∧ r.state ≠ .cancelling ∧ 0 < r.failed ∧
    (request 2 .write).failed = 0 := by decide

theorem witness_HomeTranslationIsABijection :
    (20127 < 464128 ∧ 0 ≤ 15 ∧ 1184 * (17 * 0 + 0 * (0 - 1) / 2) ≤ 20127 ∧ 20127 < 1184 * (17 * 1 + 1 * (1 - 1) / 2)) ∧
    (464127 < 464128 ∧ 1184 * (17 * 15 + 15 * (15 - 1) / 2) ≤ 464127) ∧
    (⟨1183, 16⟩ : Psa).cls = some .user ∧ (⟨19183, 31⟩ : Psa).cls = some .user := by decide

/-! ### Witnesses: the head, the sectors and the magnet -/

theorem witness_IndexPlansOnePolarity :
    (Quiet (writing .needErase .settled) ∧ (writing .needErase .settled).sup.mount ≠ .spinningDown ∧
      ((writing .needErase .settled).jobs.map Job.id).Nodup) ∧ (writing .needErase .settled).planner.Lawful ∧
    (Quiet (revolving .erase .needErase) ∧ ((revolving .erase .needErase).jobs.map Job.id).Nodup) ∧
    (revolving .erase .needErase).planner.Lawful ∧ Quiet (inState .spinningDown) :=
  ⟨by decide, ⟨rfl, rfl, rfl⟩, by decide, ⟨rfl, rfl, rfl⟩, by decide⟩

/-- READY on track 13,681 with the page PLAYING and its unfilled stream job on track 12,000. -/
def starved : State :=
  { playing true with
    jobs := [{ job 9 .stream .streamRead 257265 12000 0 .needRead with page := some (.active, 0), dataPresent := false }]
    planner := { State.reset.planner with head := .settled, current := some 13681 } }

/-- The cases of the index decision: called away, a plannable action, a flip asked, an idle revolution, and nothing to do;
and the seek choice of UNPOSITIONED. -/
theorem witness_IndexDecides :
    (Quiet starved ∧ (after .index starved).urgent = true ∧
      (after .index starved).unfilledStreamJob.any (fun j => j.target.track != 13681) = true) ∧
    (let s := writing .needErase .settled
     (after .index s).urgent = false ∧
       ∃ j ∈ (after .index s).candidates 13681, ∃ a, j.nextAction = some a ∧ s.plansAction a = true) ∧
    (let s := writing .erased .settled
     let t := after .index s
     Quiet s ∧ State.asksFlip s t 13681 .erase ∧
       (∀ j ∈ t.candidates 13681, ∀ a ∈ j.nextAction, s.plansAction a = false) ∧ t.magnet.movingToward = some .write ∧
       ∃ j ∈ t.candidates 13681, j.need = some .write) ∧
    (let s : State := { writing .needErase .settled with jobs := [], requests := [] }
     Quiet s ∧ (after .index s).candidates 13681 = [] ∧ (after .index s).magnet.movingToward = none) ∧
    (let s : State := { writing .needErase .unpositioned with
       planner := { State.reset.planner with head := .unpositioned } }
     (after .index s).urgent = false ∧ ((after .index s).jobs.find? Job.workable).isSome = true) := by
  refine ⟨by decide, ⟨by decide, _, List.mem_cons_self, .erase, by decide⟩,
    ⟨by decide, ⟨by decide, by decide, by decide⟩, by decide, by decide, by decide⟩, by decide, by decide⟩

/-- R77, R79: with only a write left to do, an index in settled ERASE asks for the flip and idles on the track. -/
theorem test_index_flips_and_idles :
    (after .index (writing .erased .settled)).magnet.state = .toWrite ∧
    (after .index (writing .erased .settled)).planner.head = .revolving ∧
    (after .index (writing .erased .settled)).planner.plan.map Plan.actions = some [] := by decide

/-- R74: a starved stream calls the head away at the index. -/
theorem test_index_called_away : (after .index starved).emitted = [.seek 12000] := by decide

/-- R46: an entry that a cancel frees inside an index meets the waiting stream claim before the decision: the seek goes to the
new job's track. -/
theorem test_index_meets_a_claim_a_cancel_freed :
    let s := writing .needErase .settled
    let t := after .index { s with
      requests := s.requests.map fun r => { r with state := .cancelling }
      jobs := (List.range 256).map fun k => { job 0 (.tag 2) .hostErase (300000 + k) 13681 4 .needErase with
        id := Fin.ofNat 256 k, slot := none }
      stream := { (playing true).stream with fetch := some (.active, 0) } }
    t.jobs.map Job.kind = [.streamRead, .streamRead, .streamRead] ∧ t.emitted = [.seek (home 257265).track] := by
  decide +kernel

/-- The index plans the erase of the job on its track, and the ERASE code of zone 11 is computed with no temperature held. -/
theorem test_index_plans_the_erase :
    (after .index (writing .needErase .settled)).planner.plan =
      some { track := 13681, zone := 11, mutating := some .erase, actions := [⟨4, .erase, 7⟩] } ∧
    (after .index (writing .needErase .settled)).power.erase.code = 491 := by decide

theorem witness_IndexRecomputesTheSetpoints :
    Quiet (writing .needErase .settled) ∧ (writing .needErase .settled).sup.mount ≠ .spinningDown ∧
    (after .index (writing .needErase .settled)).planner.plan ≠ none ∧
    (after .index (inState .ready)).planner.plan = none := by decide

theorem witness_ElevatorTakesTheNearestAhead :
    (6 ∈ [4, 6, 9] ∧ 5 < 6 ∧ ∀ y ∈ [4, 6, 9], 5 < y → 6 ≤ y) ∧ (4 ∈ [4, 6, 9] ∧ 4 < 5 ∧ ∀ y ∈ [4, 6, 9], y < 5 → y ≤ 4) ∧
    (9 ∈ [4, 9] ∧ 9 < 10 ∧ (∀ y ∈ [4, 9], y < 10 → y ≤ 9) ∧ ∀ y ∈ [4, 9], y ≤ 10) ∧
    (4 ∈ [4, 9] ∧ 3 < 4 ∧ (∀ y ∈ [4, 9], 3 < y → 4 ≤ y) ∧ ∀ y ∈ [4, 9], 3 ≤ y) ∧ (∀ y ∈ [5], y = 5) := by decide

/-- READY with the head moving toward track 13,681, one failure counted. -/
def moving (head : Head) (target : Option Nat) : State :=
  { inState .ready with planner := { State.reset.planner with
      head := head, target := target, failures := 1, seekTimer := decide (head = .seeking)
      recalTimer := decide (head = .recalibrating) } }

theorem witness_SeekDoneByHeadState :
    (Quiet (moving .seeking (some 13681)) ∧ (moving .seeking (some 13681)).planner.head = .seeking) ∧
    (Quiet (moving .recalibrating (some 13681)) ∧ (moving .recalibrating (some 13681)).planner.target = some 13681) ∧
    (Quiet (moving .recalibrating none) ∧ (moving .recalibrating none).planner.target = none) ∧
    (Quiet (inState .ready) ∧ (inState .ready).planner.head ≠ .seeking ∧ (inState .ready).planner.head ≠ .recalibrating) := by
  decide

theorem witness_SeekFailuresLeadToRecalibration :
    (Quiet (moving .seeking (some 13681)) ∧ (moving .seeking (some 13681)).planner.failures < 2 ∧
      (moving .seeking (some 13681)).planner.seekTimer = true) ∧
    (Quiet (moving .recalibrating (some 13681)) ∧ (moving .recalibrating (some 13681)).planner.target.isSome = true ∧
      (moving .recalibrating (some 13681)).planner.recalTimer = true) ∧
    (Quiet (moving .recalibrating none) ∧ (moving .recalibrating none).planner.target = none) ∧
    (let j := job 9 (.tag 3) .hostRead 300000 13681 4 .needRead
     let s : State := { moving .seeking (some 13681) with
       planner := { (moving .seeking (some 13681)).planner with failures := 2 }, requests := [request 3 .read], jobs := [j] }
     Quiet s ∧ s.planner.head = .seeking ∧ s.planner.target = some 13681 ∧ s.planner.failures = 2 ∧
       (s.jobs.map Job.id).Nodup ∧ j ∈ s.jobs ∧ j.phase ≠ .held ∧ j.target.track = 13681 ∧ j.kind = .hostRead ∧
       s.planner.seekTimer = true ∧ (∀ j ∈ s.jobs, j.phase = .held ↔ j.heldBehind.isSome = true) ∧ s.remap.flush = none) ∧
    (let j := job 9 (.tag 3) .hostWrite 300000 13681 4 .erased
     let s : State := { moving .recalibrating (some 13681) with
       planner := { (moving .recalibrating (some 13681)).planner with failures := 2 }, requests := [request 3 .write]
       jobs := [j] }
     Quiet s ∧ s.planner.head = .recalibrating ∧ s.planner.target = some 13681 ∧ s.planner.failures = 2 ∧
       (s.jobs.map Job.id).Nodup ∧ s.planner.recalTimer = true ∧
       (∀ j ∈ s.jobs, j.phase = .held ↔ j.heldBehind.isSome = true) ∧ j ∈ s.jobs ∧ j.reassignedOn 13681 = true ∧
       j.sparesTried < 3 ∧ s.remap.entries.length + s.jobs.length ≤ 2048) ∧
    ((moving .recalibrating none).planner.recalTimer = true) ∧
    (inState .ready).planner.seekTimer = false ∧ (inState .ready).planner.recalTimer = false := by decide

/-- The third failure to reach the map track in READY, with a MAP WRITE due there, a write elsewhere and a read behind it. -/
def losingTheMapTrack : State :=
  { staged [] with
    sup := { (staged []).sup with secondStage := .idle }
    planner := { (moving .seeking (some 19200)).planner with failures := 2 } }

/-- The flush that a give-up fails: a MAP WRITE on the track, MAP WRITE FAILED not yet in the set. -/
theorem witness_SeekFailuresLeadToRecalibration_flush :
    Quiet losingTheMapTrack ∧ losingTheMapTrack.planner.target = some 19200 ∧ losingTheMapTrack.planner.failures = 2 ∧
    losingTheMapTrack.planner.head = .seeking ∧ (losingTheMapTrack.jobs.map Job.id).Nodup ∧
    (∀ j ∈ losingTheMapTrack.jobs, j.phase = .held ↔ j.heldBehind.isSome = true) ∧ FlushAgrees losingTheMapTrack ∧
    (∃ j ∈ losingTheMapTrack.jobs, j.failsOn 19200 = true ∧ j.kind = .mapWrite) ∧
    mapWriteFailedEnters losingTheMapTrack (after .seekFault losingTheMapTrack) := by
  have h := staged_flush_agrees []
  exact ⟨by decide +kernel, by decide, by decide, by decide, by decide, by decide,
    ⟨h.owner, h.waiting, h.writing, h.pass, h.each⟩, by decide, by unfold mapWriteFailedEnters; decide +kernel⟩

/-- R30, R70, R71, R156: the MAP WRITE ends with SEEK FAULT, MAP WRITE FAILED enters, the write elsewhere ends with WRITE
INHIBITED before the seek choice, and the seek goes to the read that it held. -/
theorem test_give_up_on_the_map_track_ends_every_writer :
    let t := after .seekFault losingTheMapTrack
    t.jobs.map (fun j => (j.id, j.phase)) = [(9, .needRead)] ∧ t.emitted = [.seek 13681] ∧
    t.sup.inhibit = [.mapWriteFailed] ∧ t.sup.secondStage = .idle ∧
    t.link.outbound = [.done 2 .completeWithErrors .writeInhibited ⟨0, 1, 0, 0, 0⟩ (some 300000)] ∧
    (t.request? 5).map (fun r => (r.failed, r.firstFailure)) = some (1, some (none, .seekFault)) := by decide +kernel

/-- The third failure to reach track 12,000, with a STREAM READ of the active page's sector 1 and a MAP READ of sector 3 due
there. -/
def losingATrack : State :=
  let s := playing true
  let load : Job := { job 8 .map .mapRead 0 12000 3 .needRead with lsn := none, slot := none }
  let read : Job := { job 9 .stream .streamRead 257266 12000 0 .needRead with page := some (.active, 1) }
  { s with
    jobs := [read, load]
    remap := { s.remap with load := some (List.replicate 17 none) }
    sram := [(9 * 1024, 0xA5)]
    planner := { (moving .seeking (some 12000)).planner with failures := 2 } }

/-- The reads that a give-up fails: one of a page and one of a map load. -/
theorem witness_SeekFailuresLeadToRecalibration_deliveries :
    Quiet losingATrack ∧ losingATrack.planner.failures = 2 ∧ losingATrack.stream.active ≠ none ∧
    losingATrack.filledAtGiveUp 12000 = [⟨.active, 1, 9⟩] ∧ losingATrack.remap.load = some (List.replicate 17 none) ∧
    (∃ j ∈ losingATrack.jobs, j.failsOn 12000 = true ∧ j.kind = .mapRead ∧ j.target.sector = 3) := by decide +kernel

/-- R70, R150, R168: the page's sector is filled with zero bytes, with STREAM DATA ERROR and one failed sector; the load has
FAILED for its sector. -/
theorem test_give_up_delivers_failed_reads :
    let t := after .seekFault losingATrack
    t.jobs = [] ∧ t.stream.filled = [⟨.active, 1, 9⟩] ∧ t.stream.active.map Page.failedSectors = some 1 ∧
    t.conditions = [.streamDataError] ∧ t.sram = [] ∧ t.remap.load.map (fun rs => rs.take 4) = some [none, none, none, some .failed] := by
  decide +kernel

theorem witness_DisturbancesOfTheHead :
    (let s := underWay .erase .needErase
     Quiet s ∧ s.planner.head = .revolving ∧ s.planner.current = some 13681 ∧
       ∃ o, s.seq.openAction = some o ∧ o.action.polarity ≠ none) ∧
    (let s := revolving .write .erased
     ∃ p a, s.planner.plan = some p ∧ a ∈ p.actions ∧ a.action.polarity ≠ none ∧ s.seq.position ≤ a.sector) ∧
    (let s := writing .needErase .settled
     Quiet s ∧ s.planner.head = .settled ∧ s.planner.current = some 13681 ∧ s.seq.openAction = none ∧ s.planner.plan = none) ∧
    (Quiet (moving .seeking (some 13681)) ∧ (moving .seeking (some 13681)).planner.head ≠ .stopped ∧
      (moving .seeking (some 13681)).planner.head ≠ .refocusing) ∧
    (Quiet (moving .refocusing (some 13681)) ∧ (moving .refocusing (some 13681)).planner.target = some 13681) ∧
    (Quiet (writing .needErase .refocusing) ∧ (writing .needErase .refocusing).planner.target = none ∧
      (writing .needErase .refocusing).planner.current = some 13681) ∧
    (Quiet (moving .refocusing none) ∧ (moving .refocusing none).planner.target = none ∧
      (moving .refocusing none).planner.current = none) ∧
    (Quiet (inState .ready) ∧ (inState .ready).planner.head = .stopped) := by
  refine ⟨⟨by decide, by decide, by decide, _, rfl, by decide⟩, ⟨_, _, rfl, List.mem_cons_self, by decide, by decide⟩,
    by decide, by decide, by decide, by decide, by decide, by decide⟩

/-- R84, R86: the seek back after an off-track event turns the magnet to WRITE for a write that is due on the track, with none
left to erase. -/
theorem test_off_track_seek_flips_the_magnet :
    let t := after .offTrack (writing .erased .settled)
    t.magnet.state = .toWrite ∧ t.magnet.coil = some .write ∧ t.emitted = [.seek 13681] ∧
    (after .offTrack (writing .needErase .settled)).magnet.state = .erase := by decide +kernel

/-- The laser's three levels, and OFF with the spindle down and with the latch set. -/
theorem witness_SectorMarkGatesTheLaser_levels :
    (inState .loaded).sup.mount = .loaded ∧
    ({ underWay .erase .needErase with seq := { (underWay .erase .needErase).seq with killLatch := true } } : State).seq.killLatch = true ∧
    (∀ a ∈ [Action.erase, .write, .verify, .blankCheck, .read],
      (underWay a .needErase).sup.mount = .ready ∧ (underWay a .needErase).seq.killLatch = false ∧
        (underWay a .needErase).seq.openAction.map (fun o => (o.action, o.gated)) = some (a, a.polarity.isSome)) ∧
    (revolving .erase .needErase).seq.openAction = none := by decide

theorem witness_SectorMarkGatesTheLaser :
    (let s := revolving .erase .needErase
     Quiet s ∧ (s.jobs.map Job.id).Nodup ∧ s.planner.head = .revolving ∧ s.seq.openAction = none ∧ s.seq.position < trackSectors 13681 ∧
       s.magnet.settled = some .erase ∧ s.seq.killLatch = false ∧ s.sup.inhibit = [] ∧
       s.planner.plan.map (fun p => p.actions.find? (fun b => b.sector == s.seq.position)) = some (some ⟨4, .erase, 7⟩)) ∧
    (let s := revolving .write .erased
     Quiet s ∧ Action.write.polarity = some .write ∧ s.magnet.settled ≠ some .write) ∧
    (Quiet (revolving .verify .written) ∧ Action.verify.polarity = none) ∧
    (let s : State := { revolving .erase .needErase with
       seq := { killLatch := false, position := 28, openAction := none, refocusTimer := false } }
     Quiet s ∧ trackSectors 13681 ≤ s.seq.position) ∧
    (let s : State := { revolving .erase .needErase with
       seq := { killLatch := false, position := 27, openAction := none, refocusTimer := false } }
     Quiet s ∧ s.seq.position < trackSectors 13681 ∧ ∀ p ∈ s.planner.plan, ∀ a ∈ p.actions, a.sector ≠ s.seq.position) ∧
    (let s := underWay .erase .needErase
     Quiet s ∧ s.seq.openAction.isSome = true ∧ ∀ p ∈ s.planner.plan, ∀ a ∈ p.actions, a.sector ≠ s.seq.position) ∧
    ((⟨13680, 4⟩ : Psa).valid = true ∧ (⟨13680, 4⟩ : Psa).track ≠ 13681) ∧
    (Quiet (inState .ready) ∧ (inState .ready).planner.head ≠ .revolving) := by decide

/-- A revolution on the track of LSN 300,000 whose one planned action serves a changed job, in a flush that writes every map
sector. -/
def serving (action : Action) (change : Job → Job) : State :=
  let s := revolving action .needErase
  { s with
    jobs := s.jobs.map change
    remap := { s.remap with flush := some {
      owner := none, phase := .writing0to15, sectors := List.replicate 17 .writing, images := [], stale := false } } }

/-- The ID errors of SectorMarkGatesTheLaser: an unreadable header, and a header of another sector of the track. -/
theorem witness_SectorMarkGatesTheLaser_id_errors :
    (∀ q, (none : Option Psa) = some q → q.valid = true → q.track = 13681 ∧ q.sector ≠ 4) ∧
    (∀ q, some (⟨13681, 5⟩ : Psa) = some q → q.valid = true → q.track = 13681 ∧ q.sector ≠ 4) ∧
    (let s := serving .erase id
     Quiet s ∧ s.seq.openAction = none ∧ cutOffJobs s = s.jobs ∧
       (s.job? 7).map (fun j => (j.kind, j.idFailures)) = some (.hostWrite, 0)) ∧
    (let s := serving .erase fun j => { j with idFailures := 3 }
     Quiet s ∧ (s.job? 7).map (fun j => (j.kind, j.idFailures)) = some (.hostWrite, 3)) ∧
    (let s := serving .erase fun j => { j with kind := .mapWrite, owner := .map, idFailures := 3 }
     Quiet s ∧ (s.job? 7).map (fun j => (j.kind, j.idFailures, j.target.sector)) = some (.mapWrite, 3, 4) ∧
       s.remap.flush.map (fun f => (f.sectors.length, f.sectors[4]?)) = some (17, some .writing)) ∧
    (let s := serving .read fun j => { j with kind := .hostRead, phase := .needRead }
     Quiet s ∧ (s.job? 7).map (fun j => (j.kind, j.attempts, j.idFailures)) = some (.hostRead, 3, 0)) ∧
    (let s := serving .read fun j => { j with kind := .hostRead, phase := .needRead, attempts := 1 }
     Quiet s ∧ (s.job? 7).map (fun j => (j.kind, j.attempts)) = some (.hostRead, 1)) := by
  refine ⟨fun q h => ?_, fun q h _ => ?_, ?_⟩
  · cases h
  · cases h
    decide
  · decide

/-- R96: a gated write mark sends the bytes of the job's slot to the medium. -/
theorem test_write_mark_sends_the_slot :
    let s := revolving .write .erased
    let t := after (.sectorMark (some ⟨13681, 4⟩)) { s with
      magnet := { s.magnet with state := .write, coil := some .write }, sram := [(7 * 1024, 0xA5)] }
    t.emitted = [.data ⟨13681, 4⟩ (0xA5 :: List.replicate 1023 0)] ∧ t.laser = .write := by decide +kernel

theorem witness_SectorEndAppliesTheOutcome :
    (Quiet (inState .ready) ∧ (inState .ready).seq.openAction = none) ∧
    (∀ a ∈ [Action.erase, .write, .verify, .blankCheck, .read],
      let s := underWay a .needErase
      Quiet s ∧ (s.jobs.map Job.id).Nodup ∧ s.planner.head = .revolving ∧ s.seq.openAction.map (fun o => (o.action, o.job)) = some (a, some 7) ∧
        (s.job? 7).map (fun j => decide (1 < j.attempts)) = some true) := by decide

/-- The seventeen map sectors of an image whose only entry is an ACTIVE one. -/
def image : List MapSector :=
  { number := 0, generation := 1, count := 1, entries := [⟨some 300000, ⟨14384, 0⟩⟩] } ::
    (List.range 16).map fun k => { number := k + 1, generation := 1, count := 0, entries := [] }

/-- The action of that revolution under way for a changed job, the flush's images those of `image`. -/
def checking (action : Action) (change : Job → Job) : State :=
  let s := underWay action .written
  { s with
    jobs := s.jobs.map change
    remap := { s.remap with flush := some {
      owner := none, phase := .writing0to15, sectors := List.replicate 17 .writing, images := image, stale := false } } }

/-- The outcomes of SectorEndAppliesTheOutcome: a check that fails and one that succeeds, for a HOST WRITE, a HOST ERASE and a
MAP WRITE, at the last attempt or before. -/
theorem witness_SectorEndAppliesTheOutcome_checks :
    (∀ j, ¬(checking .verify id).CheckSucceeds .verify j .uncorrectable) ∧
    (∀ j, (checking .blankCheck id).CheckSucceeds .blankCheck j .blank) ∧
    (∀ change ∈ [id, fun j : Job => { j with attempts := 1 }, fun j => { j with kind := .hostErase },
        fun j => { j with kind := .mapWrite, owner := .map }, fun j => { j with kind := .hostRead, attempts := 1 }],
      Quiet (checking .verify change) ∧ (checking .verify change).sup.inhibit = [] ∧
        (checking .verify change).job? 7 = some (change (job 7 (.tag 2) .hostWrite 300000 13681 4 .written))) ∧
    (let s := checking .verify id
     s.CheckSucceeds .verify (job 7 (.tag 2) .hostWrite 300000 13681 4 .written) (.good 4 (.user zeroBytes)) ∧
       ∀ h ∈ s.jobs, h.heldBehind = some 7 → h.kind.writeType = true) ∧
    (let s := checking .verify fun j => { j with kind := .mapWrite, owner := .map }
     (∀ e ∈ s.remap.entries, e.ownedBy 7 = false) ∧
     s.CheckSucceeds .verify { job 7 .map .mapWrite 300000 13681 4 .written with target := ⟨19200, 4⟩ }
       (.good 4 (.image { number := 4, generation := 1, count := 0, entries := [] }))) := by
  refine ⟨fun j h => ?_, fun j => rfl, by decide +kernel, ?_, ?_⟩
  · obtain ⟨c, f, h, -⟩ := h
    cases h
  · exact ⟨⟨4, .user zeroBytes, rfl, by decide, 7, rfl, by decide +kernel⟩, by decide⟩
  · exact ⟨by decide, 4, _, rfl, by decide, _, _, rfl, rfl, by decide⟩

theorem witness_HostReadDeliversItsData :
    let j := job 9 (.tag 3) .hostRead 300000 13681 4 .needRead
    let act : OpenAction := { sector := 4, action := .read, job := some 9, gated := false }
    let s : State := { underWay .read .needRead with
      requests := [request 3 .read], jobs := [j], seq := { State.reset.seq with openAction := some act, position := 5 } }
    Quiet s ∧ (s.jobs.map Job.id).Nodup ∧ s.planner.head = .revolving ∧ s.seq.openAction = some act ∧ act.action = .read ∧ act.job = some 9 ∧
      s.job? 9 = some j ∧ j.kind = .hostRead ∧ j.owner = .tag 3 ∧ j.lsn = some 300000 ∧ j.slot = some 9 ∧ 12 ≤ s.cfg.rt ∧
      zeroBytes.length = 1024 ∧ s.request? 3 = some (request 3 .read) ∧ (request 3 .read).kind = .read := by
  refine ⟨by decide, by decide, by decide, by decide, by decide, by decide, by decide, by decide, by decide, by decide,
    by decide, by decide, by rw [zeroBytes, List.length_replicate], by decide, by decide⟩

/-- A READ under way in that revolution for the one job of a table. -/
def reading (j : Job) (s : State) : State :=
  { s with
    jobs := [j], requests := [request 3 .read], planner := (revolving .read .needRead).planner
    seq := { State.reset.seq with
      openAction := some { sector := 4, action := .read, job := some 9, gated := false }, position := 5 } }

/-- The other deliveries of HostReadDeliversItsData: BLANK, beyond Rt with a refresh created and dropped, a STREAM READ of a
page and an orphan, a MAP READ. -/
theorem witness_HostReadDeliversItsData_other_ends :
    (let j := job 9 (.tag 3) .hostRead 300000 13681 4 .needRead
     let s := reading j (inState .ready)
     Quiet s ∧ (s.jobs.map Job.id).Nodup ∧ s.job? 9 = some j ∧ (fieldBytes (.user zeroBytes)).length = 1024 ∧ s.cfg.rt < 13 ∧ 0 < s.available ∧
       s.jobs.length < 256 ∧ s.claimWaits = false ∧ s.sup.inhibit = [] ∧
       (∀ o ∈ s.jobs, o.lsn = j.lsn → o.kind.writeType = false) ∧
       ({ s with sup := { s.sup with inhibit := [.tab] } } : State).sup.inhibit ≠ []) ∧
    (let j : Job := { job 9 .stream .streamRead 257265 13681 4 .needRead with page := some (.active, 0) }
     let s := reading j (playing true)
     Quiet s ∧ (s.jobs.map Job.id).Nodup ∧ s.job? 9 = some j ∧ (s.stream.pageAt .active).isSome = true) ∧
    (let j : Job := { job 9 .stream .streamRead 257265 13681 4 .needRead with page := some (.orphan, 0) }
     let s := reading j (playing true)
     Quiet s ∧ (s.jobs.map Job.id).Nodup ∧ s.job? 9 = some j ∧ s.stream.active ≠ none) ∧
    (let j : Job := { job 9 .map .mapRead 0 13681 4 .needRead with lsn := none, slot := none }
     let s := reading j (inState .mapping)
     Quiet s ∧ (s.jobs.map Job.id).Nodup ∧ s.job? 9 = some j) := by
  decide +kernel

/-- R53, R105 (assumption 46): an orphan that is corrected beyond Rt asks for a refresh. -/
theorem test_orphan_asks_for_a_refresh :
    let j : Job := { job 9 .stream .streamRead 257265 13681 4 .needRead with page := some (.orphan, 0) }
    let s := reading j (playing true)
    let t := after (.sectorEnd (.good 13 (.user zeroBytes))) s
    s.stream.active ≠ none ∧ s.cfg.rt < 13 ∧ t.jobs.map Job.kind = [.refresh] ∧
    t.stream.ringFree = [10, 11, 12, 13, 14, 15, 16, 17, 9] := by decide +kernel

/-- R168: an orphan that fails at its last attempt frees its slot and raises nothing; with no page and no other stream job the
ring is released. -/
theorem test_failed_orphan_frees_its_slot :
    let j : Job := { job 9 .stream .streamRead 257265 13681 4 .needRead with page := some (.orphan, 0), attempts := 1 }
    let t := after (.sectorEnd .uncorrectable) (reading j (playing true))
    let alone := { playing true with stream := { (playing true).stream with active := none } }
    let u := after (.sectorEnd .uncorrectable) (reading j alone)
    t.jobs = [] ∧ t.stream.ringFree = [10, 11, 12, 13, 14, 15, 16, 17, 9] ∧ t.stream.filled = [] ∧ t.conditions = [] ∧
    t.stream.active = some (page true) ∧ u.stream.reserved = false ∧ u.stream.ringFree = [] ∧
    u.pool.drop 256 = [10, 11, 12, 13, 14, 15, 16, 17, 9] := by decide +kernel

theorem witness_HostReadDeliversItsData_copy :
    let s := underWay .verify .written
    let j := job 7 (.tag 2) .hostWrite 300000 13681 4 .written
    let h : Job := { job 9 (.tag 3) .hostRead 300000 13681 4 .held with heldBehind := some 7 }
    let s : State := { s with requests := s.requests ++ [request 3 .read], jobs := s.jobs ++ [h] }
    Quiet s ∧ s.job? 7 = some j ∧ s.CheckSucceeds .verify j (.good 0 (.user zeroBytes)) ∧ (s.jobs.map Job.id).Nodup ∧
      (s.jobs.filter fun k => decide (k.heldBehind = some 7)) = [h] ∧ s.request? 3 = some (request 3 .read) := by
  refine ⟨by decide, by decide, ⟨0, .user zeroBytes, rfl, by decide, 7, rfl, by decide +kernel⟩, by decide, by decide,
    by decide⟩

/-- MAPPING with the flip of the mount under way, and where its sense and its flip timer stand. -/
def flipping (agreed expired : Bool) : State :=
  { inState .mapping with
    sup := { (inState .mapping).sup with
      mountCtx := some { tag := 5, mapLeg := false, magnetLeg := false, reason := none } }
    requests := [request 5 .mount]
    magnet := { state := .toErase, coil := some .erase, flipRunning := !expired, flipExpired := expired, settleTimer := true
                senseAgreed := agreed, lastSense := .none } }

theorem witness_MagnetSettlesOrFaults :
    (Quiet (inState .ready) ∧ (inState .ready).magnet.state ≠ .toErase ∧ (inState .ready).magnet.state ≠ .toWrite ∧
      (inState .ready).magnet.flipRunning = false ∧ (inState .ready).magnet.settleTimer = false) ∧
    (Quiet (flipping false false) ∧ (flipping false false).magnet.state = .toErase ∧ Sense.write ≠ .erase ∧
      (flipping false false).magnet.flipExpired = false ∧ (flipping false false).magnet.flipRunning = true ∧
      (flipping false false).magnet.senseAgreed = false) ∧
    (Quiet (flipping false true) ∧ (flipping false true).magnet.flipExpired = true ∧
      (flipping false true).magnet.settleTimer = true ∧ (flipping false true).magnet.movingToward ≠ none) ∧
    (Quiet (flipping true false) ∧ (flipping true false).magnet.flipRunning = true ∧
      (flipping true false).magnet.senseAgreed = true ∧ (flipping true false).magnet.movingToward = some .erase ∧
      (flipping true false).sup.mount = .mapping ∧ (flipping true false).sup.mountCtx ≠ none) ∧
    (underWay .erase .needErase).sup.mount ≠ .mapping ∧
    (let s : State := { claiming with magnet := (flipping false true).magnet }
     Quiet s ∧ s.magnet.settleTimer = true ∧ s.magnet.movingToward ≠ none ∧ .magnetFault ∉ s.sup.inhibit ∧
       s.sup.mount.mounted = true) ∧
    (flipping false true).sup.mount.mounted = false := by
  decide +kernel

/-- R30, R154: the failed flip of a mounted cartridge makes the second stage due and withdraws the flush's claims. -/
theorem test_magnet_fault_withdraws_the_claims :
    let t := after .settleTimeoutExpiry { claiming with magnet := (flipping false true).magnet }
    t.sup.secondStage = .now ∧ t.remap.flush.map (fun f => f.sectors[15]?) = some (some (.failed .magnetFault)) ∧
    t.requests.map Request.failed = [16] := by decide +kernel

/-- R20, R115: the flip timer's expiry settles a mount's flip toward ERASE, which ends the magnet leg and MAGNET FAULT. -/
theorem test_flip_timer_ends_the_magnet_leg :
    let s := flipping true false
    let t := after .flipTimerExpiry { s with sup := { s.sup with inhibit := [.mapDamaged, .magnetFault] } }
    t.sup.inhibit = [.mapDamaged] ∧ t.sup.mountCtx.map MountContext.magnetLeg = some true := by decide

/-! ### Witnesses: laser power and the defect map -/

theorem witness_SetPowerStagesTheClampedSet :
    FrameArrives (inState .mapping) ∧ FrameArrives (inState .ready) ∧ (2 < 3 ∨ 1 < 1 ∨ 960 < 240) ∧ (2 < 2 ∨ 1 < 2 ∨ 960 < 240) ∧
    (2 < 2 ∨ 1 < 1 ∨ 239 < 240) ∧ (inState .ready).sup.mount ≠ .spinningUp ∧ (inState .ready).sup.mount ≠ .mapping ∧
    2 ≤ 2 ∧ 1 ≤ 1 ∧ 240 ≤ 240 :=
  ⟨arrives (by decide), arrives (by decide), by decide, by decide, by decide, by decide, by decide, by decide, by decide,
    by decide⟩

theorem witness_CalcReportsTheComputation :
    FrameArrives (inState .empty) ∧ 15 < 16 ∧ (0 = 0 ∧ ((-161 : Int) < -160 ∨ (500 : Int) < -161)) ∧ 2 < 3 ∧ 1 < 2 ∧
    (15 ≤ 15 ∧ (0 = 0 → (-160 : Int) ≤ 500 ∧ (500 : Int) ≤ 500) ∧ 2 ≤ 2 ∧ 1 ≤ 1) :=
  ⟨arrives (by decide), by decide, by decide, by decide, by decide, by decide⟩

/-- The WRITE computation of Chapter 7's worked sequence: 135,040 and the even 528. -/
theorem test_calc_reports_the_worked_code :
    (after (.calcPower 11 0 120 2 0) (inState .empty)).link.occupied =
      [.calcReport 528 135040 ⟨false, false, false, false, false⟩] ∧
    (after (.calcPower 11 0 120 1 0) (inState .empty)).link.occupied =
      [.calcReport 486 124416 ⟨false, false, false, false, false⟩] := by decide

theorem witness_ComputationStaysWithinItsLimits :
    Coefficients.writeDefault.pmin ≤ Coefficients.writeDefault.pmax ∧ Coefficients.writeDefault.b ≤ 1023 ∧ 15 ≤ 15 ∧
    -32768 ≤ Coefficients.writeDefault.g ∧ Coefficients.writeDefault.g ≤ 32767 ∧
    (compute { Coefficients.writeDefault with b := 0, g := 0 } 0 ⟨none, false⟩).flags.limLow = true ∧
    (compute { Coefficients.writeDefault with b := 1023, g := 0 } 0 ⟨none, false⟩).flags.limHigh = true := by decide

/-- READY with a dirty map of one ACTIVE entry. -/
def dirty : State :=
  { inState .ready with remap := { State.reset.remap with
      entries := [.active 300000 ⟨14384, 0⟩], dirty := true, status := .loaded } }

theorem witness_FlushMapBeginsOrEnds :
    let busy : FlushContext := { owner := none, phase := .writing16, sectors := [], images := [], stale := false }
    FrameArrives (inState .ready) ∧ FrameArrives dirty ∧ flushRefusal 15 (inState .ready) = none ∧
    (inState .ready).remap.dirty = false ∧ flushRefusal 15 dirty = none ∧ dirty.remap.dirty = true ∧
    flushRefusal 16 dirty = some .badParameter ∧
    flushRefusal 3 { dirty with requests := [request 3 .read] } = some .tagBusy ∧
    flushRefusal 15 (inState .unmounting) = some .unmounting ∧ flushRefusal 15 (inState .mapping) = some .notMounted ∧
    flushRefusal 15 { dirty with remap := { dirty.remap with flush := some busy } } = some .busy ∧
    flushRefusal 15 { dirty with sup := { dirty.sup with inhibit := [.tab] } } = some .writeInhibited :=
  ⟨arrives (by decide), arrives (by decide), by decide, by decide, by decide, by decide, by decide, by decide, by decide,
    by decide, by decide, by decide⟩

/-- Sixty-five retired spares, in table order. -/
def retired65 : List Entry := (List.range 65).map fun k => .retired ⟨1184, k⟩

theorem witness_ReadMapReportsAndMovesTheCursor :
    FrameArrives (inState .empty) ∧ (inState .empty).remap.entries.length ≤ 64 ∧ 64 < retired65.length ∧
    retired65[63]? = some (.retired ⟨1184, 63⟩) :=
  ⟨arrives (by decide), by decide, by decide, by decide⟩

theorem witness_LoadDecisionHasThreeOutcomes :
    (let s : State := { inState .mapping with remap := { State.reset.remap with load := some (List.replicate 17 (some .blank)) } }
     s.remap.load = some ((List.replicate 17 LoadResult.blank).map some) ∧ s.sup.mount = .mapping ∧
       ∀ r ∈ List.replicate 17 LoadResult.blank, r = .blank) ∧
    (let s : State := { inState .mapping with
       remap := { State.reset.remap with load := some ((image.map fun x => .good (some x)).map some) } }
     s.remap.load = some ((image.map fun x => LoadResult.good (some x)).map some) ∧ s.sup.mount = .mapping ∧
       image ≠ [] ∧ validImage image = true) ∧
    ((∃ r ∈ [LoadResult.failed], r ≠ .blank) ∧
      ∀ ms : List MapSector, [LoadResult.failed] = ms.map (fun x => .good (some x)) → validImage ms = false) := by
  refine ⟨by decide, by decide +kernel, by decide, fun ms h => ?_⟩
  cases ms <;> simp at h

theorem witness_AllocationSucceedsWhileTheTableHasRoom :
    464127 < 464128 ∧ dirty.remap.entries.length < 2048 ∧ (⟨14384, 1⟩ : Psa).cls = some .spare ∧
    trackZone 14384 = lsnZone 300000 ∧ (∀ e ∈ dirty.remap.entries, e.spare ≠ ⟨14384, 1⟩) ∧
    2048 ≤ (List.replicate 2048 (Entry.retired ⟨14384, 0⟩)).length := by
  refine ⟨by decide, by decide, by decide, by decide, by decide, by rw [List.length_replicate]⟩

/-- A job with a PENDING entry, one without, and a write at its third spare, with a spare left and in a full table. -/
theorem witness_AllocationSucceedsWhileTheTableHasRoom_reassignment :
    (let r : Remap := { State.reset.remap with entries := [.active 300000 ⟨14384, 1⟩, .pending 300000 ⟨14384, 0⟩ 7] }
     .pending 300000 ⟨14384, 0⟩ 7 ∈ r.entries ∧
       (∀ e ∈ r.entries, e.ownedBy 7 = true → e = .pending 300000 ⟨14384, 0⟩ 7) ∧ (⟨13681, 4⟩ : Psa) ≠ ⟨14384, 0⟩ ∧
       ∀ e ∈ r.entries, e.ownedBy 8 = false) ∧
    (let s := writing .needErase .settled
     let j := job 7 (.tag 2) .hostWrite 300000 13681 4 .needErase
     (s.jobs.map Job.id).Nodup ∧ s.job? 7 = some j ∧ j.sparesTried < 3 ∧ (allocateSpare s.remap.entries 300000).isSome = true ∧
       3 ≤ ({ j with sparesTried := 3 } : Job).sparesTried) ∧
    allocateSpare (List.replicate 2048 (Entry.retired ⟨14384, 0⟩)) 300000 = none := by
  decide +kernel

/-- R146: at the DONE of a redirected write its PENDING entry is ACTIVE, the older ACTIVE one RETIRED, the map dirty. -/
theorem test_done_activates_the_spare :
    let r : Remap := { State.reset.remap with entries := [.active 300000 ⟨14384, 1⟩, .pending 300000 ⟨14384, 0⟩ 7] }
    (r.activateOwned 7).entries = [.active 300000 ⟨14384, 0⟩, .retired ⟨14384, 1⟩] ∧ (r.activateOwned 7).dirty = true := by
  decide

/-- The first spare of zone 11's band not named by an entry. -/
theorem test_allocation_takes_the_lowest_free_spare :
    allocateSpare dirty.remap.entries 300000 = some ⟨14384, 1⟩ := by decide +kernel

/-- A dirty map whose flush waits for its slots, or is in its first pass with every sector of a kind. -/
def flushing (phase : FlushPhase) (sector : FlushSector) (owner : Option Nat) : State :=
  { dirty with
    requests := (owner.map fun t => newRequest t .flushMap none false 17).toList
    remap := { dirty.remap with
      flush := some { owner := owner, phase := phase, sectors := List.replicate 17 sector, images := [], stale := false } } }

theorem witness_FlushTakesSlotsAndCreatesItsJobs :
    (let s := flushing .waitingForSlots .noSlot (some 5)
     s.remap.flush.map FlushContext.phase = some .waitingForSlots ∧ 17 ≤ s.pool.length ∧ s.pool.Nodup ∧ s.sup.inhibit = [] ∧
       s.remap.flush.map FlushContext.anyFailed = some false) ∧
    (let s := flushing .writing0to15 (.waiting 3) (some 5)
     s.remap.flush.map FlushContext.claims = some (0 :: [1, 2, 3, 4, 5, 6, 7, 8, 9, 10, 11, 12, 13, 14, 15]) ∧
       s.remap.flush.map (fun f => f.sectors[0]?) = some (some (.waiting 3)) ∧ s.jobs.length < 256 ∧ s.sup.inhibit = [] ∧
       s.remap.flush.map FlushContext.anyFailed = some false ∧ s.stream.fetch = none) ∧
    (flushing .waitingForSlots (.failed .writeInhibited) (some 5)).remap.flush.map (fun f => f.sectors.head?) =
      some (some (.failed .writeInhibited)) := by decide +kernel

theorem witness_FlushEndsBySuccessOrFailure :
    (let s := flushing .writing16 .done (some 5)
     let r := newRequest 5 .flushMap none false 17
     s.remap.flush.map (fun f => (decide (f.phase ≠ .waitingForSlots), f.sectors.all (· == .done), f.owner)) =
       some (true, true, some 5) ∧ s.request? 5 = some r ∧ r.state = .opened ∧ r.abortReason = none ∧ r.failed = 0) ∧
    (flushing .writing16 .done none).remap.flush.map FlushContext.owner = some none ∧
    (let s := flushing .writing0to15 (.failed .uncorrectable) (some 5)
     s.remap.flush.map (fun f => (f.sectors.contains (.failed .uncorrectable), f.sectors.length,
       f.sectors.all (· != .writing))) = some (true, 17, true) ∧ .mapWriteFailed ∉ s.sup.inhibit) ∧
    (let f : FlushContext := { owner := some 5, phase := .writing0to15, images := [], stale := false
                               sectors := (List.replicate 17 (FlushSector.failed .uncorrectable)).set 3 .writing }
     .failed .uncorrectable ∈ f.sectors ∧ f.sectors.length = 17 ∧ .writing ∈ f.sectors) ∧
    (let s := flushing .writing0to15 (.failed .uncorrectable) (some 5)
     s.sup.mount.mounted = true ∧ s.sup.secondStage ≠ .now) ∧
    (let s := flushing .writing0to15 (.failed .uncorrectable) none
     let s : State := { s with sup := { s.sup with inhibit := [.mapWriteFailed] } }
     s.remap.flush.map (fun f => (f.owner, f.sectors)) = some (none, List.replicate 17 (.failed .uncorrectable)) ∧
       .mapWriteFailed ∈ s.sup.inhibit) := by decide

/-- The entries of an image that is loaded back: ordered, of class SPARE, in range. -/
theorem witness_FlushTakesSlotsAndCreatesItsJobs_image :
    let entries : List Entry := [.active 300000 ⟨14384, 0⟩, .pending 300000 ⟨14384, 1⟩ 7, .retired ⟨14384, 2⟩]
    entries.length ≤ 2048 ∧ (entries.Pairwise fun a b => a.rank < b.rank) ∧ (entries.map Entry.spare).Nodup ∧
      ∀ e ∈ entries, e.spare.cls = some .spare ∧ ∀ l ∈ e.lsn?, l < 464128 := by decide

/-- R30, R156: the entry of MAP WRITE FAILED makes the second stage due, at the next index while REVOLVING, else at once. -/
theorem test_failed_flush_map_starts_the_second_stage :
    let s := flushing .writing0to15 (.failed .uncorrectable) (some 5)
    (after .flushFails { s with planner := { s.planner with head := .revolving } }).sup.secondStage = .atIndex ∧
    (after .flushFails { s with planner := { s.planner with head := .settled } }).sup.secondStage = .now := by decide +kernel

/-- R156: a flush that the second stage has failed while it waited takes no slots, although the pool holds them. -/
theorem test_failed_waiting_flush_takes_no_slots :
    let s := flushing .waitingForSlots .noSlot (some 5)
    let t := after .inhibitSecondStage { s with sup := { s.sup with inhibit := [.tab], secondStage := .now } }
    17 ≤ t.pool.length ∧ t.flushFailed = true ∧ (after .flushTakesSlots t).remap.generation = s.remap.generation ∧
    (after .flushTakesSlots t).pool = t.pool ∧ (after .mapWriteClaimMet t).jobs = [] := by decide +kernel

/-- R156: a flush with a sector still being written goes on, its results counted when the write ends. -/
theorem test_failed_flush_waits_for_its_writes :
    let s := flushing .writing0to15 .noSlot (some 5)
    let t := after .flushFails { s with remap := { s.remap with flush := s.remap.flush.map fun f =>
      { f with sectors := (f.sectors.set 0 (.failed .idNotFound)).set 1 .writing } } }
    t.sup.inhibit = [.mapWriteFailed] ∧ t.remap.flush.map (fun f => f.sectors.count .writing) = some 1 ∧
    t.link.occupied = [] := by decide +kernel

/-! ### Witnesses: page streaming -/

theorem witness_PlayAddsAPage :
    let r := inState .ready
    FrameArrives r ∧ FrameArrives (playing true) ∧ playRefusal 257265 1000 3 r = none ∧
    playRefusal 464127 16 64 r = none ∧ playRefusal 257265 1000 3 (playing true) = none ∧
    playRefusal 0 16 1 (inState .unmounting) = some .unmounting ∧ playRefusal 0 16 1 (inState .empty) = some .notMounted ∧
    playRefusal 0 15 1 r = some .badParameter ∧ playRefusal 0 8193 1 r = some .badParameter ∧
    playRefusal 0 16 0 r = some .badParameter ∧ playRefusal 0 16 65536 r = some .badParameter ∧
    playRefusal 464127 16 65 r = some .range ∧
    playRefusal 0 16 1 { playing true with stream := { (playing true).stream with pendingPage := some (page false) } } =
      some .busy ∧
    playRefusal 0 16 1 { r with pool := [] } = some .bufferFull :=
  ⟨arrives (by decide), arrives (by decide), by decide +kernel, by decide +kernel, by decide, by decide, by decide, by decide,
    by decide, by decide, by decide, by decide, by decide, by decide⟩

theorem witness_StopPlayAndSetRecorder :
    (FrameArrives (inState .ready) ∧ (inState .ready).stream.active = none ∧ (inState .ready).stream.pendingPage = none) ∧
    (FrameArrives (playing true) ∧ (playing true).stream.active = some (page true) ∧
      (playing true).stream.reserved = true ∧ (playing true).jobs.any Job.isStream = false) ∧ (1 < 2 ∨ 1 < 0 ∨ 3 < 0) ∧
    (1 < 0 ∨ 1 < 2 ∨ 3 < 0) ∧ (1 < 0 ∨ 1 < 0 ∨ 3 < 4) ∧ (1 ≤ 1 ∧ 1 ≤ 1 ∧ 3 ≤ 3) :=
  ⟨⟨arrives (by decide), by decide⟩, ⟨arrives (by decide), by decide⟩, by decide, by decide, by decide, by decide⟩

/-- STOP PLAY with a stream job left, and with none, under a ring of two filled slots. -/
theorem test_stop_play_frees_the_filled_slots :
    let s : State := { playing true with stream := { (playing true).stream with filled := [⟨.active, 0, 20⟩, ⟨.active, 1, 21⟩] } }
    let read : Job := { job 9 .stream .streamRead 257267 12000 0 .needRead with page := some (.active, 2) }
    (after .stopPlay { s with jobs := [read] }).stream.ringFree = [10, 11, 12, 13, 14, 15, 16, 17, 20, 21] ∧
    (after .stopPlay s).stream.ringFree = [] ∧ (after .stopPlay s).pool.drop 256 = [10, 11, 12, 13, 14, 15, 16, 17, 20, 21] := by
  decide +kernel

/-- The STREAM READ job of a page sector. -/
def streamJob (place : Place) (sector : Nat) : Job :=
  { job 9 .stream .streamRead (257265 + sector) 12000 0 .needRead with page := some (place, sector), dataPresent := false }

theorem witness_OrphansLeaveAndClaimsAreMet :
    (let s : State := { inState .ready with jobs := [streamJob .orphan 0] }
     s.planner.head ≠ .revolving ∧ (∃ j ∈ s.jobs, j.isOrphan = true) ∧ (s.jobs.map Job.id).Nodup ∧
       (∀ j ∈ s.jobs, j.isOrphan = true → j.owner = .stream ∧ j.slot.isSome = true) ∧
       s.stream.active = none ∧ s.stream.pendingPage = none ∧ ∀ j ∈ s.jobs, j.isStream = true → j.isOrphan = true) ∧
    ((playing true).stream.reserved = true ∧ (playing true).stream.active ≠ none ∧ (inState .ready).stream.reserved = false) ∧
    (let s : State := { playing false with stream := { (playing false).stream with fetch := some (.active, 2) } }
     s.stream.fetch = some (.active, 2) ∧ s.stream.ringFree = 10 :: [11, 12, 13, 14, 15, 16, 17] ∧
       s.stream.pageAt .active = some (page false) ∧ s.jobs.length < 256) := by decide

/-- The PLAYING page with its three sectors filled. -/
def filledPage : State :=
  { playing true with stream := { (playing true).stream with
      filled := [⟨.active, 0, 20⟩, ⟨.active, 1, 21⟩, ⟨.active, 2, 22⟩] } }

theorem witness_LineRequestsAreAlwaysAnswered :
    (Quiet (inState .ready) ∧ (inState .ready).stream.active = none) ∧
    (Quiet (playing false) ∧ (page false).started = false) ∧
    (Quiet (playing true) ∧ (page true).started = true ∧ (page true).lines + 1 < (page true).lineCount ∧
      ((playing true).jobs.map Job.id).Nodup ∧
      (∀ j ∈ (playing true).jobs, j.kind = .streamRead → j.owner = .stream ∧ j.slot.isSome = true) ∧
      (page true).abandoned = false ∧
      ¬((playing true).cfg.killMode = .level ∧ (playing true).stream.killLevel = true) ∧
      ¬((playing true).stream.covers 0 1000 = true)) ∧
    (Quiet filledPage ∧ filledPage.stream.covers 0 1000 = true) ∧
    (let s : State := { playing true with stream := { (playing true).stream with killLevel := true } }
     Quiet s ∧ s.cfg.killMode = .level ∧ s.stream.killLevel = true) ∧
    (let p : Page := { page true with abandoned := true }
     let s : State := { playing true with stream := { (playing true).stream with active := some p } }
     Quiet s ∧ s.stream.active = some p ∧ p.abandoned = true) ∧
    (let p : Page := { page true with lines := 2 }
     let s : State := { playing true with stream := { (playing true).stream with active := some p } }
     Quiet s ∧ p.lineCount ≤ p.lines + 1 ∧ s.stream.pendingPage = none ∧ s.stream.reserved = true ∧
       (∀ j ∈ s.jobs, j.isStream = true → j.streamOf .active = true) ∧
       Quiet { s with stream := { s.stream with pendingPage := some (page false) } }) ∧
    (0 < 2000 ∧ (filledPage.stream.filled.find? fun x => decide (x.place = .active ∧ x.sector = (1000 + 24) / 1024)) =
      some ⟨.active, 1, 21⟩) := by decide

/-- A page of three lines of 2,000 bytes after its first line: sector 1 filled, sector 2 being read, the fetch pointer at a
sector. -/
def passing (fetch : Option (Place × Nat)) : State :=
  { playing true with
    jobs := [streamJob .active 2]
    stream := { (playing true).stream with
      active := some { page true with lineLen := 2000, lines := 1 }, pendingPage := some (page false), readPos := 2000
      ringFree := [], filled := [⟨.active, 1, 20⟩, ⟨.active, 3, 21⟩], fetch := fetch } }

/-- R173, R174: the next line passes sectors 1 and 2, and the fetch pointer moves on to the sector of the read position; under
ABORT the underrun takes the whole page out of the ring. -/
theorem test_line_passes_its_sectors :
    let aborting (s : State) : State := { s with stream := { s.stream with inForce := { s.stream.inForce with fill := .abort } } }
    let t := after .lineRequest (passing (some (.active, 2)))
    let u := after .lineRequest (aborting (passing (some (.active, 4))))
    t.stream.filled = [⟨.active, 3, 21⟩] ∧ t.jobs = [] ∧ t.stream.ringFree.Perm [9, 20] ∧ t.stream.fetch = some (.active, 3) ∧
    (after .lineRequest (passing (some (.active, 4)))).stream.fetch = some (.active, 4) ∧
    u.stream.filled = [] ∧ u.jobs = [] ∧ u.stream.ringFree.Perm [9, 20, 21] ∧ u.stream.fetch = some (.pending, 0) := by
  decide +kernel

/-- R166, R177: at an EDGE kill the pending page takes over its filled slot and its job; with none pending the ring goes. -/
theorem test_edge_kill_hands_the_ring_over :
    let s : State := { playing true with
      cfg := { Settings.reset with killMode := .edge }
      jobs := [streamJob .active 1, { streamJob .pending 1 with id := 8, slot := some 8 }]
      stream := { (playing true).stream with
        ringFree := [], filled := [⟨.active, 0, 20⟩, ⟨.pending, 0, 21⟩], fetch := some (.active, 2) } }
    let t := after .killAsserted { s with stream := { s.stream with pendingPage := some (page false) } }
    let u := after .killAsserted { s with jobs := [streamJob .active 1] }
    t.stream.filled = [⟨.active, 0, 21⟩] ∧ t.jobs.map Job.page = [some (.active, 1)] ∧ t.stream.fetch = some (.active, 0) ∧
    t.stream.ringFree = [9, 20] ∧ t.stream.reserved = true ∧
    u.stream.reserved = false ∧ u.stream.fetch = none ∧ u.pool.drop 256 = [9, 20, 21] := by decide +kernel

theorem witness_PageStartAndKillInput :
    (let s : State := { playing false with stream := { (playing false).stream with
       startTest := true, filled := [⟨.active, 0, 20⟩, ⟨.active, 1, 21⟩, ⟨.active, 2, 22⟩] } }
     s.stream.startTest = true ∧ s.stream.active = some (page false) ∧ s.stream.filledFrom .active 0 = (page false).sectors) ∧
    (let s : State := { playing false with stream := { (playing false).stream with startTest := true } }
     s.stream.startTest = true ∧
       ¬(s.cfg.wHi ≤ s.stream.readyRun ∨ s.stream.filledFrom .active 0 = (page false).sectors)) ∧
    (Quiet (inState .ready) ∧ (inState .ready).cfg.killMode = .level) ∧
    (let s : State := { playing true with cfg := { Settings.reset with killMode := .edge } }
     Quiet s ∧ s.cfg.killMode = .edge ∧ (s.jobs.map Job.id).Nodup ∧ s.stream.active = some (page true) ∧ (page true).started = true ∧
       (∀ j ∈ s.jobs, j.kind = .streamRead → j.owner = .stream) ∧ s.stream.pendingPage = none ∧
       Quiet { s with stream := { s.stream with pendingPage := some (page false) } }) := by decide

/-! ### One step, expected values from the manual's rules -/

/-- R17: TAKEN, RUN, SPINNING UP. -/
theorem test_mount_spins_up :
    (after (.mount 5) (inState .loaded)).sup.mount = .spinningUp ∧ (after (.mount 5) (inState .loaded)).sup.spindleRun = true ∧
    (after (.mount 5) (inState .loaded)).link.occupied = [.taken 5 0x10 0] := by decide

/-- R18, R150: seventeen MAP READ jobs, the last on sector 16, and the seek to track 19,200. -/
theorem test_spindle_at_speed_starts_the_map_leg :
    (after .spindleAtSpeed (inState .spinningUp)).jobs.length = 17 ∧
    (after .spindleAtSpeed (inState .spinningUp)).jobs.map Job.target = (List.range 17).map (fun k => ⟨19200, k⟩) ∧
    (after .spindleAtSpeed (inState .spinningUp)).emitted = [.seek 19200] ∧
    (after .spindleAtSpeed (inState .spinningUp)).magnet.state = .toErase := by decide

/-- R25, R59: a discarded ERASED write is disturbed, and its slot is free. -/
theorem test_removal_aborts_a_write :
    (after .cartridgeAbsent (writing .erased .settled)).link.occupied =
      [.done 2 .aborted .mediumRemoved ⟨0, 0, 0, 0, 1⟩ none] ∧
    (after .cartridgeAbsent (writing .erased .settled)).pool.getLast? = some 7 ∧
    (after .cartridgeAbsent (writing .erased .settled)).sup.mount = .empty := by decide

/-- R30, R60: the second stage ends the write FAILED with WRITE INHIBITED. -/
theorem test_second_stage_fails_the_write :
    let s := writing .needErase .settled
    (after .inhibitSecondStage { s with sup := { s.sup with secondStage := .now, inhibit := [.tab] } }).link.occupied =
      [.done 2 .completeWithErrors .writeInhibited ⟨0, 1, 0, 0, 0⟩ (some 300000)] := by decide

/-- R98: a completed gated erase. -/
theorem test_erase_end :
    (after (.sectorEnd .uncorrectable) (underWay .erase .needErase)).jobs.map Job.phase = [.erased] := by decide

/-- R102: a GOOD verify with c = Vt and equal bytes ends the job DONE. -/
theorem test_verify_within_the_threshold :
    (after (.sectorEnd (.good 4 (.user zeroBytes))) (underWay .verify .written)).link.occupied =
      [.done 2 .complete .none ⟨1, 0, 0, 0, 0⟩ none] := by decide +kernel

/-- R102: above Vt the job begins again with an attempt fewer. -/
theorem test_verify_above_the_threshold :
    (after (.sectorEnd (.good 5 (.user zeroBytes))) (underWay .verify .written)).jobs.map (fun j => (j.phase, j.attempts)) =
      [(.needErase, 2)] := by decide +kernel

/-- R144, R145: at the last attempt the job is redirected to the first spare of zone 11. -/
theorem test_last_attempt_is_reassigned :
    let s := underWay .verify .written
    (after (.sectorEnd .blank) { s with jobs := s.jobs.map fun j => { j with attempts := 1 } }).jobs.map
      (fun j => (j.target, j.sparesTried, j.attempts, j.phase)) = [(⟨14384, 0⟩, 1, 3, .needErase)] := by decide +kernel

/-- R86, R99, R108: an off-track event under a gated erase. -/
theorem test_off_track_cuts_the_erase_off :
    (after .offTrack (underWay .erase .erased)).jobs.map Job.phase = [.needErase] ∧
    (after .offTrack (underWay .erase .erased)).conditions = [.shock] ∧
    (after .offTrack (underWay .erase .erased)).laser = .off := by decide

/-- R7, R94: a header of another sector is an ID error, and the fourth one of a write leads to a spare. -/
theorem test_id_errors :
    (after (.sectorMark (some ⟨13681, 5⟩)) (revolving .erase .needErase)).jobs.map Job.idFailures = [1] ∧
    (let s := revolving .erase .needErase
     (after (.sectorMark none) { s with jobs := s.jobs.map fun j => { j with idFailures := 3 } }).jobs.map
       (fun j => (j.target, j.idFailures)) = [(⟨14384, 0⟩, 0)]) := by decide +kernel

/-- R47: a READ of an LSN that a write still works on is held behind it. -/
theorem test_read_is_held_behind_a_write :
    (after (.read 3 300000 1 0) (writing .needErase .settled)).jobs.map (fun j => (j.phase, j.heldBehind)) =
      [(.needErase, none), (.held, some 7)] := by decide +kernel

/-- R48: at the write's DONE the held read takes the writer's bytes, c = 0. -/
theorem test_read_after_write_copy :
    let s := underWay .verify .written
    let held : Job := { job 9 (.tag 3) .hostRead 300000 13681 4 .held with heldBehind := some 7 }
    let t := after (.sectorEnd (.good 0 (.user zeroBytes))) { s with
      requests := s.requests ++ [{ request 3 .read with outstanding := 1 }], jobs := s.jobs ++ [held] }
    t.jobs = [] ∧ t.link.occupied =
      [.dataIn 3 300000 false 0 9 zeroBytes, .done 2 .complete .none ⟨1, 0, 0, 0, 0⟩ none] := by decide +kernel

/-- R49: a DATA for a job that has its data is refused. -/
theorem test_second_data_is_refused :
    (after (.data 2 300000 []) (writing .needErase .settled)).link.occupied = [.refused 2 .dataDuplicate 0x23] := by decide

/-- R56, R57: a cancel takes effect at the REVOLVING index. -/
theorem test_cancel_at_the_index :
    let s := revolving .erase .needErase
    let t := after .index { s with requests := s.requests.map fun r => { r with state := .cancelling } }
    t.jobs = [] ∧ t.link.occupied = [.done 2 .cancelled .none ⟨0, 0, 0, 0, 0⟩ none] := by decide

/-- R69, R70: the third failure gives up on the track. -/
theorem test_third_seek_failure_ends_the_read :
    let s := moving .seeking (some 13681)
    (after .seekFault { s with
      planner := { s.planner with failures := 2 }, requests := [{ request 3 .read with outstanding := 1 }]
      jobs := [job 9 (.tag 3) .hostRead 300000 13681 4 .needRead] }).link.occupied =
      [.done 3 .completeWithErrors .seekFault ⟨0, 1, 0, 0, 0⟩ (some 300000)] := by decide

/-- R40, R70, R154: a read that ends in a give-up brings the pool to seventeen, so the waiting flush makes its snapshot then,
and the entry that the next job's reassignment retires sets its stale mark. -/
theorem test_give_up_serves_a_flush_between_its_jobs :
    let s := moving .seeking (some 14384)
    let t := after .seekFault { s with
      planner := { s.planner with failures := 2 }, pool := (allSlots.drop 100).take 16
      requests := [{ request 3 .read with outstanding := 1 }, newRequest 2 .write (some (300000, 1)) false 1,
        newRequest 5 .flushMap none false 17]
      jobs := [job 9 (.tag 3) .hostRead 300001 14384 1 .needRead,
        { job 7 (.tag 2) .hostWrite 300000 14384 0 .erased with sparesTried := 1 }]
      remap := { s.remap with
        entries := [.active 300001 ⟨14384, 1⟩, .pending 300000 ⟨14384, 0⟩ 7], dirty := true
        flush := some { owner := some 5, phase := .waitingForSlots, sectors := List.replicate 17 .noSlot, images := []
                        stale := false } } }
    t.remap.flush.map (fun f => (f.stale, (f.images.map MapSector.count).sum)) = some (true, 1) ∧ t.pool = [] ∧
    .retired ⟨14384, 0⟩ ∈ t.remap.entries ∧ t.jobs.length = 17 := by decide +kernel

/-- R47: a read behind a cancelled write is checked again, and held behind the older write. -/
theorem test_a_read_is_held_behind_another :
    let s := writing .needErase .settled
    let t := after (.cancelTakesEffect 4) { s with
      requests := s.requests ++ [{ newRequest 4 .write (some (300000, 1)) false 1 with state := .cancelling }, request 3 .read]
      jobs := s.jobs ++ [{ job 8 (.tag 4) .hostWrite 300000 13681 4 .held with heldBehind := some 7 },
        { job 9 (.tag 3) .hostRead 300000 13681 4 .held with heldBehind := some 8 }] }
    t.jobs.map (fun j => (j.id, j.phase, j.heldBehind)) = [(7, .needErase, none), (9, .held, some 7)] := by decide

/-- R115, R20: the settle of a mount's flip, at the report and at the expiry. -/
theorem test_flip_settles_either_way :
    (after (.magnetSense .erase) (flipping false true)).magnet.state = .erase ∧
    (after .flipTimerExpiry (flipping true false)).magnet.state = .erase ∧
    (after .flipTimerExpiry (flipping false false)).magnet.state = .toErase := by decide

/-- R116, R20: the timeout of a mount's flip. -/
theorem test_flip_timeout_faults :
    (after .settleTimeoutExpiry (flipping false true)).magnet.state = .fault ∧
    (after .settleTimeoutExpiry (flipping false true)).sup.inhibit = [.magnetFault] ∧
    (after .settleTimeoutExpiry (flipping false true)).sup.mountCtx.bind MountContext.reason = some .magnetFault := by decide

/-- R154: a flush takes seventeen slots and the generation rises. -/
theorem test_flush_takes_seventeen_slots :
    (flushing .waitingForSlots .noSlot (some 5)).flushTakes.pool.length = 239 ∧
    (flushing .waitingForSlots .noSlot (some 5)).flushTakes.remap.generation = 1 := by decide +kernel

/-- R156: with a FAILED sector the flush records the rest, enters MAP WRITE FAILED and ends; DONE counts the seventeen. -/
theorem test_flush_fails :
    let s := flushing .writing0to15 .noSlot (some 5)
    let t := after .flushFails { s with
      remap := { s.remap with flush := s.remap.flush.map fun f => { f with sectors := f.sectors.set 0 (.failed .idNotFound) } }
      requests := s.requests.map fun r => { r with failed := 1, firstFailure := some (none, .idNotFound), outstanding := 16 } }
    t.sup.inhibit = [.mapWriteFailed] ∧ t.remap.dirty = true ∧ t.remap.flush = none ∧
    t.link.occupied = [.done 5 .completeWithErrors .idNotFound ⟨0, 17, 0, 0, 0⟩ none] := by decide +kernel

/-- R172, R173: a data line and an underrun with fill WHITE. -/
theorem test_lines :
    (after .lineRequest filledPage).stream.readPos = 1000 ∧ (after .lineRequest filledPage).conditions = [] ∧
    (after .lineRequest (playing true)).conditions = [.underrun] ∧
    ((after .lineRequest (playing true)).stream.active.map fun p => (p.lines, p.fillLines)) = some (1, 1) := by
  decide +kernel

/-- R175: the last line ends the page, PAGE END, PAGE DONE and the release of the ring. -/
theorem test_last_line_ends_the_page :
    let s : State := { playing true with stream := { (playing true).stream with
      active := some { page true with lines := 2, fillLines := 2 }, readPos := 2000 } }
    let t := after .lineRequest s
    t.link.occupied = [.pageDone 4 .underrun 3 3 0 0] ∧ t.stream.active = none ∧ t.stream.reserved = false ∧
    t.emitted.getLast? = some .pageEnd ∧ t.stream.idleLen = 1000 ∧ t.stream.readPos = 3000 := by decide +kernel

/-- R177: the kill input in EDGE mode ends the page without PAGE END. -/
theorem test_edge_kill_ends_the_page :
    let t := after .killAsserted { playing true with cfg := { Settings.reset with killMode := .edge } }
    t.link.occupied = [.pageDone 4 .killed 0 0 0 0] ∧ t.emitted = [] ∧ t.conditions = [.recorderKill] := by decide

/-- R196: TAKEN is the only record left, and the mount state of an unmount is READY again. -/
theorem test_reset_command :
    let t := after .reset (writing .needErase .revolving)
    t.link.occupied = [.taken 0xFF 0x04 0] ∧ t.jobs = [] ∧ t.pool.length = 256 ∧ t.planner.head = .settled := by
  decide +kernel

/-- The host's step runs the front command. -/
theorem test_step_runs_the_front_command :
    (match Sys2Proof.core.step { inState .empty with pending := [.cartridgePresent, .status] } with
      | .next t => (t.sup.mount, t.pending)
      | _ => (.empty, [])) = (.loaded, [.status]) := by decide

end Sys2Proof.Tests
end

/-! # Chapter 1: the home translation

A USER sector is a zone, a user track of the zone and a sector of that track; its home LSN is the zone's base plus the
sector's place in the zone. Both directions of R11 are read off these coordinates. -/

namespace Sys2Proof.Machine

/-! ### The zone of an LSN (R10, R11 step 1) -/

theorem zoneBase_zero : zoneBase 0 = 0 := rfl

theorem zoneBase_sixteen : zoneBase 16 = lsnEnd := rfl

/-- Zone z carries one LSN for each sector of its 1,184 user tracks. -/
theorem zoneBase_succ (z : Nat) : zoneBase (z + 1) = zoneBase z + 1184 * zoneSectors z := by
  simp only [zoneBase, zoneColumn, zoneSectors, Nat.triangle_succ]
  omega

theorem zoneBase_mono : Monotone zoneBase :=
  monotone_nat_of_le_succ fun z => by rw [zoneBase_succ]; exact Nat.le_add_right ..

/-- The LSNs below a zone's base are those of the zones inward of it. -/
theorem exists_zone_of_lt_zoneBase {lsn : Nat} :
    ∀ {n : Nat}, lsn < zoneBase n → ∃ z < n, zoneBase z ≤ lsn ∧ lsn < zoneBase (z + 1)
  | 0, h => absurd h (by simp [zoneBase_zero])
  | n + 1, h => by
    rcases Nat.lt_or_ge lsn (zoneBase n) with hn | hn
    · obtain ⟨z, hz, hlo, hhi⟩ := exists_zone_of_lt_zoneBase hn
      exact ⟨z, hz.trans n.lt_succ_self, hlo, hhi⟩
    · exact ⟨n, n.lt_succ_self, hn, h⟩

/-- The search of R11 step 1 keeps the last zone whose base the LSN reaches. -/
theorem foldl_range_zone {lsn z : Nat} (hlo : zoneBase z ≤ lsn) (hhi : lsn < zoneBase (z + 1)) {n : Nat} (hz : z < n) :
    (List.range n).foldl (fun x y => if zoneBase y ≤ lsn then y else x) 0 = z := by
  induction n, Nat.succ_le_of_lt hz using Nat.le_induction with
  | base => simp [List.range_succ, hlo]
  | succ n hn ih =>
    have above : ¬zoneBase n ≤ lsn := (hhi.trans_le (zoneBase_mono hn)).not_ge
    simpa [List.range_succ, above] using ih hn

theorem lsnZone_eq {lsn z : Nat} (hz : z < 16) (hlo : zoneBase z ≤ lsn) (hhi : lsn < zoneBase (z + 1)) :
    lsnZone lsn = z :=
  foldl_range_zone hlo hhi hz

/-- The home of an LSN by the offset, the quotient and the remainder in its zone (R11). -/
theorem home_eq {lsn z : Nat} (hz : z < 16) (hlo : zoneBase z ≤ lsn) (hhi : lsn < zoneBase (z + 1)) :
    home lsn = ⟨1200 * z + (lsn - zoneBase z) / zoneSectors z, (lsn - zoneBase z) % zoneSectors z⟩ := by
  simp only [home, lsnZone_eq hz hlo hhi]

/-! ### The coordinates of a USER sector (R1, R3, R4) -/

/-- Sector r of user track q of zone z. -/
def userPsa (z q r : Nat) : Psa := ⟨1200 * z + q, r⟩

/-- The LSN at sector r of user track q of zone z. -/
def userLsn (z q r : Nat) : Nat := zoneBase z + (q * zoneSectors z + r)

/-- The sectors that carry LSNs: 16 zones of 1,184 user tracks. -/
structure UserSector (z q r : Nat) : Prop where
  zone   : z < 16
  track  : q < 1184
  sector : r < zoneSectors z

/-- A track of a zone's 1,200 is no map track and lies in that zone. -/
theorem trackZone_add {z q : Nat} (hz : z < 16) (hq : q < 1200) : trackZone (1200 * z + q) = z := by
  unfold trackZone mapTrack
  split <;> omega

theorem psa_valid_iff {p : Psa} : p.valid = true ↔ p.track ≤ mapTrack ∧ p.sector < trackSectors p.track := by
  simp [Psa.valid]

/-- A PSA is of class USER where its track is one of the first 1,184 of a zone. -/
theorem cls_eq_user_iff {p : Psa} :
    p.cls = some .user ↔ p.track < 19200 ∧ p.track % 1200 < 1184 ∧ p.sector < 17 + p.track / 1200 := by
  unfold Psa.cls
  split
  case isFalse invalid =>
    have := mt psa_valid_iff.mpr invalid
    unfold trackSectors trackZone zoneSectors mapTrack at this
    grind
  case isTrue valid =>
    have := psa_valid_iff.mp valid
    unfold trackSectors trackZone zoneSectors mapTrack at this
    unfold mapTrack
    grind

theorem cls_userPsa {z q r : Nat} (h : UserSector z q r) : (userPsa z q r).cls = some .user := by
  obtain ⟨hz, hq, hr⟩ := h
  rw [cls_eq_user_iff]
  simp only [userPsa, zoneSectors] at hr ⊢
  omega

/-- Every PSA of class USER has such coordinates. -/
theorem exists_userSector_of_cls {p : Psa} (h : p.cls = some .user) : ∃ z q r, UserSector z q r ∧ p = userPsa z q r := by
  obtain ⟨ht, onUserTrack, hr⟩ := cls_eq_user_iff.mp h
  refine ⟨p.track / 1200, p.track % 1200, p.sector, ⟨by omega, onUserTrack, hr⟩, ?_⟩
  rw [userPsa, Nat.div_add_mod]

/-- Every LSN in range has such coordinates: the quotient and the remainder of R11. -/
theorem exists_userSector_of_lt {lsn : Nat} (h : lsn < lsnEnd) : ∃ z q r, UserSector z q r ∧ lsn = userLsn z q r := by
  obtain ⟨z, hz, hlo, hhi⟩ := exists_zone_of_lt_zoneBase (zoneBase_sixteen ▸ h)
  have sectors_pos : 0 < zoneSectors z := by unfold zoneSectors; omega
  refine ⟨z, (lsn - zoneBase z) / zoneSectors z, (lsn - zoneBase z) % zoneSectors z,
    ⟨hz, ?_, Nat.mod_lt _ sectors_pos⟩, ?_⟩
  · rw [Nat.div_lt_iff_lt_mul sectors_pos]
    rw [zoneBase_succ] at hhi
    omega
  · rw [userLsn, Nat.div_add_mod']
    omega

/-! ### The translation in coordinates (R11) -/

/-- A user sector's LSN lies in its zone's span. -/
theorem userLsn_lt {z q r : Nat} (h : UserSector z q r) : userLsn z q r < zoneBase (z + 1) := by
  have : q * zoneSectors z + zoneSectors z ≤ 1184 * zoneSectors z := by
    rw [← Nat.succ_mul]
    exact Nat.mul_le_mul_right _ h.track
  have := h.sector
  rw [zoneBase_succ, userLsn]
  omega

theorem userLsn_lt_lsnEnd {z q r : Nat} (h : UserSector z q r) : userLsn z q r < lsnEnd :=
  (userLsn_lt h).trans_le (zoneBase_mono h.zone)

theorem home_userLsn {z q r : Nat} (h : UserSector z q r) : home (userLsn z q r) = userPsa z q r := by
  have sectors_pos : 0 < zoneSectors z := r.zero_le.trans_lt h.sector
  have hlo : zoneBase z ≤ userLsn z q r := Nat.le_add_right ..
  rw [home_eq h.zone hlo (userLsn_lt h), userLsn, Nat.add_sub_cancel_left, Nat.mul_comm q,
    Nat.mul_add_div sectors_pos, Nat.mul_add_mod, Nat.div_eq_of_lt h.sector, Nat.mod_eq_of_lt h.sector]
  rfl

theorem homeInverse_userPsa {z q r : Nat} (h : UserSector z q r) : homeInverse (userPsa z q r) = userLsn z q r := by
  have := h.track
  simp only [homeInverse, userPsa, userLsn, trackZone_add h.zone (by omega : q < 1200), Nat.add_sub_cancel_left]
  omega

/-- Settles O36: the quotient and the remainder of R11 are the coordinates of a USER sector, and the translation and its
inverse go between these coordinates and the LSN they spell. -/
theorem homeTranslationIsABijection : Obligations.HomeTranslationIsABijection := by
  refine ⟨fun lsn z hl hz => ?_, fun lsn hl => ?_, fun p hp => ?_⟩
  · intro base hlo hhi
    have upper : lsn < zoneBase (z + 1) := by
      rcases hhi with rfl | hhi
      · exact hl
      · exact hhi
    exact home_eq (Nat.lt_succ_of_le hz) hlo upper
  · obtain ⟨z, q, r, h, rfl⟩ := exists_userSector_of_lt hl
    rw [home_userLsn h]
    exact ⟨cls_userPsa h, homeInverse_userPsa h⟩
  · obtain ⟨z, q, r, h, rfl⟩ := exists_userSector_of_cls hp
    rw [homeInverse_userPsa h]
    exact ⟨userLsn_lt_lsnEnd h, home_userLsn h⟩

end Sys2Proof.Machine

/-! # Chapter 3: READ, WRITE and ERASE that pass their checks

One job of an accepted span is a record of its own (`State.spanJob`); the fold of R38 appends one for each LSN, and since
the LSNs differ no job of the span holds another. -/

namespace Sys2Proof.Machine

/-! ### The job that holds a new one (R47) -/

theorem Job.holds_iff {o j : Job} {lsn : Nat} (h : j.lsn = some lsn) :
    o.holds j = true ↔ o.lsn = some lsn ∧ (o.kind.writeType = true ∨ j.kind.writeType = true) := by
  simp [Job.holds, h, or_comm]

theorem Job.holds_eq_false_of_lsn_ne {o j : Job} (h : o.lsn ≠ j.lsn) : o.holds j = false := by
  simp [Job.holds, h]

/-- Jobs that do not hold the new one have no say in which job holds it. -/
theorem holder_append_of_not_holds {older younger : List Job} {j : Job} (h : ∀ o ∈ younger, o.holds j = false) :
    holder (older ++ younger) j = holder older j := by
  have none_holds : younger.filter (fun o => o.holds j) = [] := by simpa using h
  rw [holder, List.filter_append, none_holds, List.append_nil, holder]

theorem holder_eq_none {older : List Job} {j : Job} (h : ∀ o ∈ older, o.holds j = false) : holder older j = none :=
  holder_append_of_not_holds (older := []) h

/-- A job that holds the new one, with none that does after it, is its holder. -/
theorem holder_eq_some {before after : List Job} {o j : Job} (ho : o.holds j = true)
    (h : ∀ k ∈ after, k.holds j = false) : holder (before ++ o :: after) j = some o.id := by
  rw [List.append_cons, holder_append_of_not_holds h]
  simp [holder, ho]

/-! ### The effective translation (R12) -/

theorem Entry.isActiveOf_iff {lsn : Nat} {e : Entry} : e.isActiveOf lsn = true ↔ ∃ p, e = .active lsn p := by
  cases e <;> simp [Entry.isActiveOf]

/-- Where an LSN has ACTIVE entries, its effective PSA is the spare of one of them. -/
theorem effectiveIn_of_active {entries : List Entry} {lsn : Nat} {spare : Psa} (h : .active lsn spare ∈ entries) :
    .active lsn (effectiveIn entries lsn) ∈ entries := by
  have found : (entries.find? (Entry.isActiveOf lsn)).isSome := by
    rw [List.find?_isSome]
    exact ⟨_, h, Entry.isActiveOf_iff.mpr ⟨spare, rfl⟩⟩
  obtain ⟨e, he⟩ := Option.isSome_iff_exists.mp found
  obtain ⟨p, rfl⟩ := Entry.isActiveOf_iff.mp (List.find?_some he)
  rw [effectiveIn, he]
  exact List.mem_of_find?_eq_some he

theorem effectiveIn_of_not_active {entries : List Entry} {lsn : Nat} (h : ∀ p, .active lsn p ∉ entries) :
    effectiveIn entries lsn = home lsn := by
  have notFound : entries.find? (Entry.isActiveOf lsn) = none := by
    rw [List.find?_eq_none]
    intro e he ha
    obtain ⟨p, rfl⟩ := Entry.isActiveOf_iff.mp ha
    exact h p he
  rw [effectiveIn, notFound]

/-! ### The checks (R36, R37) -/

theorem State.tagInUse_iff {s : State} {tag : Nat} : s.tagInUse tag = true ↔ ∃ r ∈ s.requests, r.tag = tag := by
  simp [State.tagInUse]

/-- One row of a table of refusals: a check that stands for the row's condition. -/
theorem refusal_row {ok : Bool} {fails : Prop} [Decidable fails] {reason : Refused} {rest table : Option Refused}
    (hrow : ok = true ↔ ¬fails) (hrest : ¬fails → rest = table) :
    (if ok then rest else some reason) = if fails then some reason else table := by
  by_cases hf : fails
  · simp [hf, mt hrow.mp (not_not_intro hf)]
  · simp [hf, hrow.mpr hf, hrest hf]

/-- The kinds of request that span LSNs. -/
def RequestKind.spans (kind : RequestKind) : Prop := kind = .read ∨ kind = .write ∨ kind = .erase

theorem RequestKind.reserves_iff {kind : RequestKind} (hk : kind.spans) : kind.reserves = true ↔ kind ≠ .erase := by
  rcases hk with rfl | rfl | rfl <;> decide

/-- The checks of READ, WRITE and ERASE, made in order, give the refusal of the table of R37. -/
theorem firstRefusal_spanChecks {kind : RequestKind} (hk : kind.spans) (tag lsn count options : Nat) (s : State) :
    firstRefusal (s.spanChecks kind tag lsn count options) = spanRefusal kind tag lsn count options s := by
  simp only [State.spanChecks, State.tagChecks, Mount.mediumChecks, List.cons_append, List.nil_append,
    firstRefusal_cons, firstRefusal_nil]
  refine refusal_row (by simp [tagValid]) fun _ => ?_
  refine refusal_row (by simp [← State.tagInUse_iff]) fun _ => ?_
  refine refusal_row (by simp) fun _ => ?_
  refine refusal_row (by simp) fun _ => ?_
  refine refusal_row (by simp [imp_iff_not_or]) fun _ => ?_
  refine refusal_row (by simp only [optionsValid, Bool.and_eq_true, decide_eq_true_eq]; grind) fun hcount => ?_
  refine refusal_row (by rw [spanInRange, decide_eq_true_iff, lsnEnd]; omega) fun _ => ?_
  refine refusal_row (by simp [← RequestKind.reserves_iff hk, imp_iff_not_or]) fun _ => ?_
  exact refusal_row (by rw [decide_eq_true_iff, State.freeEntries, tableEntries, not_lt]) fun _ => rfl

/-- PRE-ERASED passes the checks on a WRITE alone. -/
theorem not_preErased_of_passes {kind : RequestKind} {tag lsn count options : Nat} {s : State}
    (h : spanRefusal kind tag lsn count options s = none) (hk : kind ≠ .write) : decide (options = 1) = false := by
  unfold spanRefusal at h
  split_ifs at h with _ _ _ _ _ hoptions
  exact decide_eq_false fun ho => hoptions (.inr (.inr (by simp [hk, ho])))

/-- A span that passes the checks finds a free entry for each of its jobs. -/
theorem room_of_passes {kind : RequestKind} {tag lsn count options : Nat} {s : State}
    (h : spanRefusal kind tag lsn count options s = none) : s.jobs.length + count ≤ 256 := by
  unfold spanRefusal at h
  split_ifs at h
  omega

/-! ### The jobs of a span (R38 steps 3 and 4, R43, R44) -/

/-- What the hold check makes of a job that enters the table (R47): held behind its holder, or in its first phase. -/
def enterTable (older : List Job) (target : Psa) (j : Job) : Job :=
  { j with
    target := target
    heldBehind := holder older j
    phase := if (holder older j).isSome then .held else j.firstPhase }

/-- A job with an LSN enters the young end of the table, checked for a hold. -/
theorem State.createJob_jobs {s : State} {mk : JobId → Job} {id : JobId} {lsn : Nat}
    (hid : freshId s.jobs [] = some id) (hl : (mk id).lsn = some lsn) :
    (s.createJob [] mk).jobs = s.jobs ++ [enterTable s.jobs (s.effective lsn) (mk id)] := by
  simp only [State.createJob, hid, hl, State.withJobs_jobs]
  cases hh : holder s.jobs (mk id) <;> simp [enterTable, hh, hl, Job.release]

/-- The job of one LSN of a span under a given entry number. -/
def State.spanJob (s : State) (kind : RequestKind) (tag lsn : Nat) (preErased : Bool) (slot : Option Slot) (id : JobId) :
    Job :=
  enterTable s.jobs (s.effective lsn)
    (newJob s.cfg (.tag tag) kind.jobKind (some lsn) (s.effective lsn) slot false preErased none id)

@[simp] theorem State.spanJob_id (s : State) (kind tag lsn preErased slot id) :
    (s.spanJob kind tag lsn preErased slot id).id = id := rfl

@[simp] theorem State.spanJob_lsn (s : State) (kind tag lsn preErased slot id) :
    (s.spanJob kind tag lsn preErased slot id).lsn = some lsn := rfl

theorem State.addSpanJob_jobs {s : State} {kind : RequestKind} {tag lsn : Nat} {preErased : Bool} {slots : List Slot}
    {i : Nat} {id : JobId} (hid : freshId s.jobs [] = some id) :
    (s.addSpanJob kind tag lsn preErased slots i).jobs =
      s.jobs ++ [s.spanJob kind tag (lsn + i) preErased slots[i]? id] :=
  State.createJob_jobs hid rfl

/-- A span's job does not depend on what else the acceptance has done: jobs of other LSNs do not hold it. -/
theorem State.spanJob_congr {s t : State} {younger : List Job} {lsn : Nat} (hcfg : t.cfg = s.cfg)
    (hremap : t.remap = s.remap) (hjobs : t.jobs = s.jobs ++ younger) (hlsn : ∀ o ∈ younger, o.lsn ≠ some lsn)
    (kind tag preErased slot id) :
    t.spanJob kind tag lsn preErased slot id = s.spanJob kind tag lsn preErased slot id := by
  have sameHolder : ∀ j : Job, j.lsn = some lsn → holder (s.jobs ++ younger) j = holder s.jobs j := fun j hj =>
    holder_append_of_not_holds fun o ho => Job.holds_eq_false_of_lsn_ne (hj ▸ hlsn o ho)
  have sameTarget : t.effective lsn = s.effective lsn := by rw [State.effective, hremap, State.effective]
  simp only [State.spanJob, enterTable, hcfg, hjobs, sameTarget]
  rw [sameHolder _ rfl]

/-- The jobs of a span under given entry numbers, in ascending order of the LSNs. -/
def State.spanJobs (s : State) (kind : RequestKind) (tag lsn : Nat) (preErased : Bool) (slots : List Slot)
    (ids : List JobId) : List Job :=
  ids.mapIdx fun i id => s.spanJob kind tag (lsn + i) preErased slots[i]? id

theorem State.spanJobs_ids (s : State) (kind tag lsn preErased slots ids) :
    (s.spanJobs kind tag lsn preErased slots ids).map Job.id = ids :=
  List.ext_getElem (by simp [State.spanJobs]) fun i _ _ => by simp [State.spanJobs]

theorem State.spanJobs_concat (s : State) (kind tag lsn preErased slots ids id) :
    s.spanJobs kind tag lsn preErased slots (ids ++ [id]) = s.spanJobs kind tag lsn preErased slots ids ++
      [s.spanJob kind tag (lsn + ids.length) preErased slots[ids.length]? id] := by
  simp [State.spanJobs]

theorem State.spanJobs_lsn_lt {s : State} {kind tag lsn preErased slots ids} {j : Job}
    (h : j ∈ s.spanJobs kind tag lsn preErased slots ids) : ∃ i < ids.length, j.lsn = some (lsn + i) := by
  obtain ⟨i, hi, rfl⟩ := List.mem_mapIdx.mp h
  exact ⟨i, hi, rfl⟩

/-- Adding the jobs of a span in order gives the span's jobs at the young end, under fresh entry numbers. -/
theorem State.foldl_addSpanJob_jobs (s : State) (kind : RequestKind) (tag lsn : Nat) (preErased : Bool)
    (slots : List Slot) {n : Nat} (hroom : s.jobs.length + n ≤ 256) :
    ∃ ids : List JobId, ids.length = n ∧ ids.Nodup ∧ (∀ o ∈ s.jobs, o.id ∉ ids) ∧
      ((List.range n).foldl (State.addSpanJob kind tag lsn preErased slots) s).jobs =
        s.jobs ++ s.spanJobs kind tag lsn preErased slots ids := by
  induction n with
  | zero => exact ⟨[], by simp [State.spanJobs]⟩
  | succ n ih =>
    obtain ⟨ids, hlen, hnodup, hnew, hjobs⟩ := ih (by omega)
    rw [List.range_succ, List.foldl_append, List.foldl_cons, List.foldl_nil]
    generalize ht : (List.range n).foldl (State.addSpanJob kind tag lsn preErased slots) s = t at hjobs ⊢
    have hcfg : t.cfg = s.cfg := by simp [← ht]
    have hremap : t.remap = s.remap := by simp [← ht]
    have room : t.jobs.length < 256 := by
      simp only [hjobs, State.spanJobs, List.length_append, List.length_mapIdx]
      omega
    obtain ⟨id, hid⟩ := Option.isSome_iff_exists.mp (freshId_isSome room)
    obtain ⟨hfresh, -⟩ := freshId_some hid
    have fresh_old : ∀ o ∈ s.jobs, o.id ≠ id := fun o ho => hfresh o (by simp [hjobs, ho])
    have fresh_new : id ∉ ids := fun hi => by
      rw [← s.spanJobs_ids kind tag lsn preErased slots ids] at hi
      obtain ⟨j, hj, rfl⟩ := List.mem_map.mp hi
      exact hfresh j (by simp [hjobs, hj]) rfl
    have other_lsn : ∀ o ∈ s.spanJobs kind tag lsn preErased slots ids, o.lsn ≠ some (lsn + n) := fun o ho => by
      obtain ⟨i, hi, hl⟩ := State.spanJobs_lsn_lt ho
      simp only [hl, ne_eq, Option.some.injEq]
      omega
    refine ⟨ids ++ [id], by simp [hlen], ?_, ?_, ?_⟩
    · simpa using hnodup.concat fresh_new
    · intro o ho
      simp [hnew o ho, fresh_old o ho]
    · rw [State.addSpanJob_jobs hid, State.spanJob_congr hcfg hremap hjobs other_lsn, hjobs, List.append_assoc,
        State.spanJobs_concat, hlen]

/-! ### The act of acceptance (R38) -/

@[simp] theorem State.accept_requests (kind tag lsn count preErased) (s : State) :
    (s.accept kind tag lsn count preErased).requests =
      s.requests ++ [newRequest tag kind (some (lsn, count)) preErased count] := by
  simp [State.accept, State.addRequest]

@[simp] theorem State.accept_pool (kind tag lsn count preErased) (s : State) :
    (s.accept kind tag lsn count preErased).pool = if kind.reserves then s.pool.drop count else s.pool := by
  simp [State.accept]

theorem State.accept_jobs (s : State) (kind : RequestKind) (tag lsn : Nat) (preErased : Bool) {count : Nat}
    (hroom : s.jobs.length + count ≤ 256) :
    ∃ ids : List JobId, ids.length = count ∧ ids.Nodup ∧ (∀ o ∈ s.jobs, o.id ∉ ids) ∧
      (s.accept kind tag lsn count preErased).jobs =
        s.jobs ++ s.spanJobs kind tag lsn preErased (if kind.reserves then s.pool.take count else []) ids :=
  State.foldl_addSpanJob_jobs
    ((s.addRequest (newRequest tag kind (some (lsn, count)) preErased count)).withPool
      (if kind.reserves then s.pool.drop count else s.pool)) kind tag lsn preErased _ hroom

/-- The answer and the act of acceptance together do what R38 states. -/
theorem State.accept_acceptsSpan {s : State} {kind : RequestKind} (tag code lsn : Nat) {count : Nat} (preErased : Bool)
    (hroom : s.jobs.length + count ≤ 256) :
    AcceptsSpan s ((s.taken tag code 0).accept kind tag lsn count preErased) kind kind.jobKind tag lsn count preErased
      (.taken tag code 0) (if kind.reserves then s.pool.take count else []) := by
  obtain ⟨ids, hlen, hnodup, hnew, hjobs⟩ :=
    State.accept_jobs (s.taken tag code 0) kind tag lsn preErased (by simpa using hroom)
  change _ = s.jobs ++ s.spanJobs kind tag lsn preErased _ ids at hjobs
  constructor
  case link => simp [State.taken, State.reply]
  case requests => simp [newRequest]
  case pool => cases hr : kind.reserves <;> simp [hr]
  case rest => simp
  case jobs =>
    refine ⟨_, hjobs, by simp [State.spanJobs, hlen], ?_, fun j hj o ho he => ?_, fun i hi => ?_⟩
    · rwa [State.spanJobs_ids]
    · have hid := List.mem_map_of_mem (f := Job.id) hj
      rw [State.spanJobs_ids, ← he] at hid
      exact hnew o ho hid
    · simp only [State.spanJobs, List.getElem_mapIdx]
      exact ⟨rfl, rfl, rfl, rfl, rfl, rfl, rfl, rfl, rfl, rfl, rfl, rfl, rfl⟩

/-! ### The commands -/

theorem FrameArrives.accepting {s : State} (h : FrameArrives s) : s.link.accepting = true := by
  simp [Link.accepting, h.held, h.begun]

/-- A span command that passes every check is taken. -/
theorem State.spanCommand_of_passes {s : State} {kind : RequestKind} (hk : kind.spans) (code : Nat)
    {tag lsn count options : Nat} (h : spanRefusal kind tag lsn count options s = none) :
    AcceptsSpan s (s.spanCommand kind code tag lsn count options) kind kind.jobKind tag lsn count
      (decide (options = 1)) (.taken tag code 0) (if kind.reserves then s.pool.take count else []) := by
  rw [State.spanCommand, State.checked, firstRefusal_spanChecks hk, h]
  exact State.accept_acceptsSpan tag code lsn _ (room_of_passes h)

/-- Settles O32: the checks of R37 leave room for the span's jobs, and the fold of R38 appends them one by one. -/
theorem spanCommandsAreAccepted : Obligations.SpanCommandsAreAccepted := by
  refine ⟨fun older j lsn hj => ⟨?_, fun hnone => ?_⟩, fun s lsn => ⟨fun spare hmem huniq => ?_, fun hnone => ?_⟩,
    fun tag lsn count options s hs => ⟨fun h => ?_, fun h => ?_, fun h => ?_⟩⟩
  · rintro before o after rfl ho hafter
    exact holder_eq_some ((Job.holds_iff hj).mpr ho) fun k hk =>
      Bool.eq_false_iff.mpr (mt (Job.holds_iff hj).mp (hafter k hk))
  · exact holder_eq_none fun o ho => Bool.eq_false_iff.mpr (mt (Job.holds_iff hj).mp (hnone o ho))
  · exact huniq _ (effectiveIn_of_active hmem)
  · exact effectiveIn_of_not_active hnone
  · exact ⟨_, onFrame_of_quiet hs.quiet hs.accepting _ _,
      not_preErased_of_passes h (by decide) ▸ State.spanCommand_of_passes (.inl rfl) 0x20 h⟩
  · exact ⟨_, onFrame_of_quiet hs.quiet hs.accepting _ _, State.spanCommand_of_passes (.inr (.inl rfl)) 0x21 h⟩
  · exact ⟨_, onFrame_of_quiet hs.quiet hs.accepting _ _,
      not_preErased_of_passes h (by decide) ▸ State.spanCommand_of_passes (.inr (.inr rfl)) 0x22 h⟩

end Sys2Proof.Machine

/-! # Chapter 3: commands, refusals and counters

Every command has an answer. A READ, WRITE or ERASE is refused by the first check that fails; a job that ends moves the
counters of its request, and the DONE of the request is read off them. -/

namespace Sys2Proof.Machine

/-- Settles O2: every command, with all its operands, answers a next state, and none stops the part. -/
theorem everyCommandAnswersNext : Obligations.EveryCommandAnswersNext := by
  intro c s
  cases c <;> exact ⟨_, rfl⟩

theorem State.spanCommand_of_refused {s : State} {kind : RequestKind} (hk : kind.spans) (code : Nat)
    {tag lsn count options : Nat} {reason : Refused} (h : spanRefusal kind tag lsn count options s = some reason) :
    s.spanCommand kind code tag lsn count options = s.reply (.refused tag reason code) := by
  rw [State.spanCommand, State.checked, firstRefusal_spanChecks hk, h]
  rfl

/-- Settles O31: the checks of the three commands come down to `spanRefusal`. -/
theorem spanCommandsAreRefusedInOrder : Obligations.SpanCommandsAreRefusedInOrder := by
  intro tag lsn count options s reason hs
  have arrives := onFrame_of_quiet hs.quiet hs.accepting
  refine ⟨fun h => ?_, fun h => ?_, fun h => ?_⟩
  · rw [← State.spanCommand_of_refused (.inl rfl) 0x20 h]
    exact arrives _ _
  · rw [← State.spanCommand_of_refused (.inr (.inl rfl)) 0x21 h]
    exact arrives _ _
  · rw [← State.spanCommand_of_refused (.inr (.inr rfl)) 0x22 h]
    exact arrives _ _

theorem Request.countEnd_done (j : Job) (r : Request) (blank : Bool) (c : Nat) (content : Option MapSector) :
    r.countEnd j (.done blank c content) = { r with
       outstanding := r.outstanding - 1, doneCount := r.doneCount + 1
       blank := r.blank + (if blank = true ∧ j.kind = .hostRead then 1 else 0)
       reassigned := r.reassigned + (if j.kind.writeType = true ∧ 1 ≤ j.sparesTried then 1 else 0) } := by
  simp [Request.countEnd, Nat.one_le_iff_ne_zero, Nat.pos_iff_ne_zero]

theorem Request.countEnd_failed (j : Job) (reason : Reason) :
    Request.countEnd j (.failed reason) = Request.failedJob j.lsn reason :=
  funext fun r => by cases h : r.firstFailure <;> simp [Request.countEnd, Request.failedJob, h]

theorem Request.countEnd_cancelled (j : Job) (r : Request) :
    r.countEnd j .cancelled = { r with
       outstanding := r.outstanding - 1
       disturbed := r.disturbed +
         (if j.kind.writeType = true ∧ (j.phase = .erased ∨ j.phase = .written ∨ j.touched = true) then 1 else 0) } := by
  simp [Request.countEnd, Job.disturbs, or_assoc]

/-- Settles O35, row by row of R59 and R60. -/
theorem countersAndDoneFollowTheTables : Obligations.CountersAndDoneFollowTheTables := by
  refine ⟨fun j r => ⟨fun blank c content => ?_, fun reason => ?_, ?_⟩, fun r recorded => ?_⟩
  · exact r.countEnd_done j blank c content
  · exact congrFun (Request.countEnd_failed j reason) r
  · exact r.countEnd_cancelled j
  · intro first
    have first_eq : (r.firstFailure.map Prod.snd).getD .none = first := by
      cases h : r.firstFailure <;> simp [first, h]
    refine ⟨fun a ha => ?_, fun ha hc => ?_, fun ha hc x hx => ?_, fun ha hc hx hf => ?_, fun ha hc hx hf => ?_⟩
    · simp [Request.verdict, ha]
    · simp [Request.verdict, ha, hc, first_eq]
    · simp [Request.verdict, ha, hc, hx]
    · simp [Request.verdict, ha, hc, hx, hf, first_eq]
    · simp [Request.verdict, ha, hc, hx, hf]
end Sys2Proof.Machine

/-! # Chapter 3: DATA, and the end of a request

The request of a tag is one record. DATA fills the slot of a job of an open WRITE; a request ends when it has nothing
outstanding and no DATA IN unsent, which a record that leaves the lane may bring about. -/

namespace Sys2Proof.Machine

/-! ### The request of a tag (R35, R36) -/

theorem State.request?_some {s : State} {tag : Nat} {r : Request} (h : s.request? tag = some r) :
    r ∈ s.requests ∧ r.tag = tag :=
  ⟨List.mem_of_find?_eq_some h, by simpa using List.find?_some h⟩

theorem State.request?_eq_none {s : State} {tag : Nat} : s.request? tag = none ↔ ∀ r ∈ s.requests, r.tag ≠ tag := by
  simp [State.request?]

/-- Where each tag is in use once, the request of a tag is the one record of that tag. -/
theorem State.request?_of_mem {s : State} (h : (s.requests.map Request.tag).Nodup) {r : Request} (hr : r ∈ s.requests) :
    s.request? r.tag = some r := by
  cases hq : s.request? r.tag with
  | none => exact absurd rfl (State.request?_eq_none.mp hq r hr)
  | some q =>
    obtain ⟨hq, ht⟩ := State.request?_some hq
    rw [List.inj_on_of_nodup_map h hq hr ht]

/-! ### DATA (R49) -/

/-- A command whose checks are made in order is refused by the one that fails first. -/
theorem State.checked_of_refused {s : State} {tag kind : Nat} {checks : List (Bool × Refused)} {take : State → State}
    {reason : Refused} (h : firstRefusal checks = some reason) :
    s.checked tag kind checks take = s.reply (.refused tag reason kind) := by
  rw [State.checked, h]
  rfl

theorem State.checked_of_passes {s : State} {tag kind : Nat} {checks : List (Bool × Refused)} {take : State → State}
    (h : firstRefusal checks = none) : s.checked tag kind checks take = take s := by
  rw [State.checked, h]

theorem State.openWrite_eq_none {s : State} {tag : Nat}
    (h : ∀ r, s.request? tag = some r → ¬(r.kind = .write ∧ r.state = .opened)) : s.openWrite tag = none := by
  cases hr : s.request? tag with
  | none => simp [State.openWrite, hr]
  | some r => simpa [State.openWrite, hr, Option.filter] using h r hr

theorem State.openWrite_eq_some {s : State} {tag : Nat} {r : Request} (hr : s.request? tag = some r)
    (hk : r.kind = .write) (ho : r.state = .opened) : s.openWrite tag = some r := by
  simp [State.openWrite, hr, hk, ho, Option.filter]

theorem Request.spans_eq_false {r : Request} {lsn : Nat}
    (h : ∀ first count, r.span = some (first, count) → lsn < first ∨ first + count ≤ lsn) : r.spans lsn = false := by
  cases hs : r.span with
  | none => simp [Request.spans, hs]
  | some p =>
    have := h p.1 p.2 hs
    simp only [Request.spans, hs, Option.any_some, decide_eq_false_iff_not]
    omega

theorem Request.spans_eq_true {r : Request} {first count lsn : Nat} (hs : r.span = some (first, count))
    (h1 : first ≤ lsn) (h2 : lsn < first + count) : r.spans lsn = true := by
  simp [Request.spans, hs, h1, h2]

/-- A DATA that is taken fills the job's slot, marks its data present, and frees the held place. -/
theorem State.takeData_eq {s : State} {tag lsn : Nat} {j : Job} {slot : Slot} (hj : s.jobOf tag lsn = some j)
    (hs : j.slot = some slot) (bytes : List Byte) :
    s.takeData tag lsn bytes = { s with
      link := { s.link with held := false }
      sram := s.sram.writeSlot slot bytes
      jobs := s.jobs.map fun o : Job => if o.id = j.id then { o with dataPresent := true } else o } := by
  have hj' : s.noReply.jobOf tag lsn = some j := hj
  simp only [State.takeData, hj', hs]
  rfl

/-- Settles O33: the checks of R49 come down to the request of the tag and the job of the LSN. -/
theorem dataFillsTheJobsSlot : Obligations.DataFillsTheJobsSlot := by
  intro tag lsn bytes s hs
  have arrives : exec (.data tag lsn bytes) s = .next (s.arriveData tag lsn bytes) :=
    onFrame_of_quiet hs.quiet hs.accepting _ _
  have refused {reason : Refused} (h : firstRefusal (s.dataChecks tag lsn) = some reason) :
      exec (.data tag lsn bytes) s = .next (s.reply (.refused tag reason 0x23)) := by
    rw [arrives, State.arriveData, State.checked_of_refused h]
  refine ⟨fun h => refused ?_, fun r hr hk ho => ⟨fun h => refused ?_, fun first count hspan h1 h2 =>
    ⟨fun h => refused ?_, fun j hj hp => refused ?_, fun j slot hj hp hslot => ?_⟩⟩⟩
  · simp [State.dataChecks, firstRefusal_cons, State.openWrite_eq_none h]
  · simp [State.dataChecks, firstRefusal_cons, State.openWrite_eq_some hr hk ho, Request.spans_eq_false h]
  · simp [State.dataChecks, firstRefusal_cons, State.openWrite_eq_some hr hk ho, Request.spans_eq_true hspan h1 h2, h]
  · simp [State.dataChecks, firstRefusal_cons, State.openWrite_eq_some hr hk ho, Request.spans_eq_true hspan h1 h2, hj, hp]
  · have passes : firstRefusal (s.dataChecks tag lsn) = none := by
      simp [State.dataChecks, firstRefusal_cons, firstRefusal_nil, State.openWrite_eq_some hr hk ho,
        Request.spans_eq_true hspan h1 h2, hj, hp]
    rw [arrives, State.arriveData, State.checked_of_passes passes, State.takeData_eq hj hslot]

/-! ### The end of a request (R58) -/

theorem Record.isDataIn_any {tag : Nat} {l : List Record} :
    l.any (Record.isDataIn tag) = false ↔ ∀ r ∈ l, r.isDataIn tag = false := by
  simp

/-- A READ, WRITE or ERASE with nothing outstanding and no DATA IN unsent ends, and its DONE is composed. -/
theorem State.tryEndRequest_ends {s : State} {tag : Nat} {r : Request} (hr : s.request? tag = some r)
    (hs : r.state ≠ .ended) (ho : r.outstanding = 0) (hk : r.kind = .read ∨ r.kind = .write ∨ r.kind = .erase)
    (hd : r.kind = .read → s.unsentData tag = false) :
    s.tryEndRequest tag =
      (s.updateRequest tag fun q => { q with state := .ended }).compose (r.doneRecord none) := by
  have ends : r.state ≠ .ended ∧ r.outstanding = 0 ∧
      (r.kind = .write ∨ r.kind = .erase ∨ (r.kind = .read ∧ s.unsentData tag = false)) := by
    refine ⟨hs, ho, ?_⟩
    rcases hk with h | h | h
    · exact .inr (.inr ⟨h, hd h⟩)
    · exact .inl h
    · exact .inr (.inl h)
  simp only [State.tryEndRequest, State.endRequest, hr, if_pos ends]

/-- A request that has ended, has a job outstanding, or has a DATA IN unsent is not ended. -/
theorem State.tryEndRequest_goesOn {s : State} {tag : Nat}
    (h : ∀ r, s.request? tag = some r → r.state = .ended ∨ 0 < r.outstanding ∨ (r.kind = .read ∧ s.unsentData tag = true)) :
    s.tryEndRequest tag = s := by
  unfold State.tryEndRequest
  cases hr : s.request? tag with
  | none => rfl
  | some r =>
    refine if_neg fun ⟨hs, ho, hk⟩ => ?_
    rcases h r hr with h | h | ⟨h, hu⟩
    · exact hs h
    · omega
    · simp [h, hu] at hk

/-- Settles O14, by what the record that leaves is and whether its request is still listed. -/
theorem leavingRecordFreesWhatItHolds : Obligations.LeavingRecordFreesWhatItHolds := by
  intro s hs
  have leaves : exec .recordLeavesLane s = .next s.recordLeaves := onEvent_of_quiet hs _
  have front {r : Record} {rest : List Record} (h : s.link.occupied = r :: rest) : s.recordLeaves =
      State.recordLeft r { s with link := { s.link with occupied := rest }, emitted := s.emitted ++ [.sent r] } := by
    simp only [State.recordLeaves, h]
    rfl
  rw [leaves]
  refine ⟨fun h => ?_, fun tag o reason c first rest h => ?_, fun tag lsn blank c slot bytes rest q h hq hk ho => ?_,
    fun tag lsn blank c slot bytes rest h hq => ?_, fun r rest h hkind => ?_⟩
  · simp only [State.recordLeaves, h]
  · rw [front h]
    rfl
  · rw [front h]
    simp only [State.recordLeft]
    generalize ht : State.returnSlots [slot] _ = t
    have hq' : t.request? tag = some q := by rw [← ht]; exact hq
    have unsent : t.unsentData tag = (rest ++ s.link.waiting).any (Record.isDataIn tag) := by rw [← ht]; rfl
    split
    case isTrue ends =>
      have sent := unsent.trans (Record.isDataIn_any.mpr ends.2)
      rw [State.tryEndRequest_ends hq' ho ends.1 (.inl hk) fun _ => sent, ← ht]
      rfl
    case isFalse goesOn =>
      rw [State.tryEndRequest_goesOn, ← ht]
      · rfl
      · intro r hr
        obtain rfl := Option.some.inj (hq'.symm.trans hr)
        by_cases hz : q.outstanding = 0
        · refine .inr (.inr ⟨hk, unsent.trans (Bool.eq_true_of_not_eq_false fun hn => goesOn ⟨hz, ?_⟩)⟩)
          exact Record.isDataIn_any.mp hn
        · exact .inr (.inl (Nat.pos_of_ne_zero hz))
  · rw [front h]
    simp only [State.recordLeft]
    rw [State.tryEndRequest_goesOn]
    · rfl
    · exact fun r hr => .inl (hq r hr)
  · rw [front h]
    cases r <;> simp_all [Record.kind, State.recordLeft]

theorem State.tagInUse_of_request? {s : State} {tag : Nat} {r : Request} (h : s.request? tag = some r) :
    s.tagInUse tag = true :=
  State.tagInUse_iff.mpr ⟨r, State.request?_some h⟩

end Sys2Proof.Machine

/-! # Chapter 3: a job leaves the table

The jobs held behind one that leaves are checked again. A hold check changes neither which jobs stand in the table nor
what a hold is found by, so each job is checked against the table as it is left. -/

namespace Sys2Proof.Machine

/-! ### What a hold check leaves of a job (R47) -/

/-- A job without what a hold gives and a release takes anew: its phase, the job it is held behind, its target. -/
def Job.lasting (j : Job) : Job := { j with phase := .held, heldBehind := none, target := ⟨0, 0⟩ }

theorem Job.fields_of_lasting {j k : Job} (h : j.lasting = k.lasting) :
    j.id = k.id ∧ j.owner = k.owner ∧ j.kind = k.kind ∧ j.lsn = k.lsn ∧ j.slot = k.slot ∧ j.page = k.page := by
  simp only [Job.lasting, Job.mk.injEq] at h
  simp [h]

/-- The holder of a job is found by what lasts of it and of the older jobs. -/
theorem holder_lasting (older : List Job) (j : Job) : holder (older.map Job.lasting) j.lasting = holder older j := by
  have same : (fun o : Job => o.holds j.lasting) ∘ Job.lasting = fun o => o.holds j := rfl
  simp only [holder, List.filter_map, List.getLast?_map, Option.map_map, same]
  rfl

theorem holder_congr {older older' : List Job} {j j' : Job} (h : older.map Job.lasting = older'.map Job.lasting)
    (hj : j.lasting = j'.lasting) : holder older j = holder older' j' := by
  rw [← holder_lasting older, ← holder_lasting older', h, hj]

theorem takeWhile_lasting (l : List Job) (id : JobId) :
    (l.map Job.lasting).takeWhile (fun o => o.id != id) = (l.takeWhile fun o => o.id != id).map Job.lasting := by
  rw [List.takeWhile_map]
  rfl

theorem ids_of_lasting {l l' : List Job} (h : l.map Job.lasting = l'.map Job.lasting) : l.map Job.id = l'.map Job.id := by
  have := congrArg (List.map Job.id) h
  rwa [List.map_map, List.map_map] at this

/-! ### The hold check (R47) -/

/-- A job after its hold check: held behind the youngest older job that holds it, or released with its target anew. -/
def Job.rechecked (older : List Job) (effective : Nat → Psa) (o : Job) : Job :=
  match holder older o with
  | some h => { o with heldBehind := some h }
  | none => o.release ((o.lsn.map effective).getD o.target)

@[simp] theorem Job.rechecked_lasting (older : List Job) (effective : Nat → Psa) (o : Job) :
    (o.rechecked older effective).lasting = o.lasting := by
  unfold Job.rechecked
  split <;> rfl

/-- The job of an id, in a table where each id stands once. -/
theorem State.job?_of_mem {s : State} (h : (s.jobs.map Job.id).Nodup) {j : Job} (hj : j ∈ s.jobs) :
    s.job? j.id = some j := by
  cases hq : s.job? j.id with
  | none => simpa using List.find?_eq_none.mp hq j hj
  | some k =>
    obtain ⟨hk, hid⟩ := State.job?_some hq
    rw [List.inj_on_of_nodup_map h hk hj hid]

theorem State.recheck_jobs {s : State} (hn : (s.jobs.map Job.id).Nodup) (id : JobId) :
    (s.recheck id).jobs = s.jobs.map fun o => if o.id = id then o.rechecked (s.olderThan id) s.effective else o := by
  unfold State.recheck
  cases hj : s.job? id with
  | none =>
    have absent : ∀ o ∈ s.jobs, o.id ≠ id := by simpa [State.job?] using hj
    exact ((List.map_congr_left fun o ho => if_neg (absent o ho)).trans (List.map_id _)).symm
  | some j =>
    obtain ⟨hmem, rfl⟩ := State.job?_some hj
    have only : ∀ o ∈ s.jobs, o.id = j.id → o = j := fun o ho hid => List.inj_on_of_nodup_map hn ho hmem hid
    dsimp only
    cases hh : holder (s.olderThan j.id) j <;>
    · refine List.map_congr_left fun o ho => ?_
      by_cases hid : o.id = j.id
      · obtain rfl := only o ho hid
        simp [Job.rechecked, hh]
      · simp [hid]

theorem State.recheck_lasting (s : State) (id : JobId) : (s.recheck id).jobs.map Job.lasting = s.jobs.map Job.lasting := by
  have keeps (f : Job → Job) (hf : ∀ j, (f j).lasting = j.lasting) :
      (s.updateJob id f).jobs.map Job.lasting = s.jobs.map Job.lasting := by
    simp only [State.updateJob, State.withJobs_jobs, List.map_map]
    refine List.map_congr_left fun o _ => ?_
    simp only [Function.comp]
    split
    · exact hf o
    · rfl
  unfold State.recheck
  repeat' split
  · exact keeps _ fun _ => rfl
  · exact keeps _ fun _ => rfl
  · rfl

/-- Hold checks of several jobs, each once: since they change nothing that a hold is found by, each job is checked against
the table as it was. -/
theorem State.foldl_recheck_jobs {ids : List JobId} (hids : ids.Nodup) {s : State} (hn : (s.jobs.map Job.id).Nodup) :
    (ids.foldl State.recheck s).jobs =
      s.jobs.map fun o => if o.id ∈ ids then o.rechecked (s.olderThan o.id) s.effective else o := by
  induction ids generalizing s with
  | nil => simp
  | cons id ids ih =>
    obtain ⟨hnotin, hids⟩ := List.nodup_cons.mp hids
    have lasts := s.recheck_lasting id
    have older (i : JobId) : ((s.recheck id).olderThan i).map Job.lasting = (s.olderThan i).map Job.lasting := by
      rw [State.olderThan, ← takeWhile_lasting, lasts, takeWhile_lasting, State.olderThan]
    have again (o : Job) (ho : o.id ≠ id) :
        o.rechecked ((s.recheck id).olderThan o.id) (s.recheck id).effective = o.rechecked (s.olderThan o.id) s.effective := by
      have eff : (s.recheck id).effective = s.effective := funext fun l => by simp [State.effective]
      rw [Job.rechecked, Job.rechecked, holder_congr (older o.id) rfl, eff]
    rw [List.foldl_cons, ih hids (by rwa [ids_of_lasting lasts]), State.recheck_jobs hn, List.map_map]
    refine List.map_congr_left fun o _ => ?_
    by_cases hid : o.id = id
    · have : (o.rechecked (s.olderThan id) s.effective).id = id :=
        (congrArg Job.id (Job.rechecked_lasting _ _ o)).trans hid
      simp [hid, this, hnotin]
    · simp [hid, again o hid]

theorem id_bne (a b : JobId) : (a != b) = decide (a ≠ b) := by
  by_cases h : a = b <;> simp [h]

/-! ### A job leaves the table (R42, R51, R81) -/

/-- A job has left the table, the remap table is as given, and the jobs held behind it have been checked again. -/
def State.withoutJob (id : JobId) (r : Remap) (s : State) : State :=
  let u := (s.leaveTable id).withRemap r
  (u.heldBehind id).foldl State.recheck u

@[simp] theorem State.withoutJob_frame (id r) (s : State) :
    (s.withoutJob id r).sup = s.sup ∧ (s.withoutJob id r).cfg = s.cfg ∧ (s.withoutJob id r).requests = s.requests ∧
    (s.withoutJob id r).pool = s.pool ∧ (s.withoutJob id r).sram = s.sram ∧ (s.withoutJob id r).magnet = s.magnet ∧
    (s.withoutJob id r).power = s.power ∧ (s.withoutJob id r).remap = r ∧ (s.withoutJob id r).stream = s.stream ∧
    (s.withoutJob id r).link = s.link ∧ (s.withoutJob id r).conditions = s.conditions ∧
    (s.withoutJob id r).emitted = s.emitted ∧ (s.withoutJob id r).pending = s.pending := by
  simp [State.withoutJob]

theorem State.withoutJob_planner (id : JobId) (r : Remap) (s : State) :
    (s.withoutJob id r).planner = { s.planner with
      plan := s.planner.plan.map fun p => { p with actions := p.actions.filter fun a => decide (a.job ≠ id) } } := by
  simp [State.withoutJob, State.leaveTable, id_bne]


/-- The jobs of the table without one. -/
def State.jobsWithout (s : State) (id : JobId) : List Job := s.jobs.filter fun o => decide (o.id ≠ id)

theorem State.jobsWithout_ids_nodup {s : State} (hn : (s.jobs.map Job.id).Nodup) (id : JobId) :
    ((s.jobsWithout id).map Job.id).Nodup :=
  hn.sublist (List.filter_sublist.map Job.id)

theorem State.withoutJob_jobs {s : State} (hn : (s.jobs.map Job.id).Nodup) (id : JobId) (r : Remap) :
    (s.withoutJob id r).jobs = (s.jobsWithout id).map fun o =>
      if o.heldBehind = some id then
        o.rechecked ((s.jobsWithout id).takeWhile fun k => decide (k.id ≠ o.id)) (effectiveIn r.entries)
      else o := by
  have jobs : ((s.leaveTable id).withRemap r).jobs = s.jobsWithout id := by
    simp only [State.leaveTable, State.withRemap_jobs, State.withSeq_jobs, State.withPlanner_jobs, State.withJobs_jobs,
      State.jobsWithout, id_bne]
  have hn' := State.jobsWithout_ids_nodup hn id
  rw [← jobs] at hn' ⊢
  have held_once : (((s.leaveTable id).withRemap r).heldBehind id).Nodup :=
    hn'.sublist (List.filter_sublist.map Job.id)
  rw [State.withoutJob, State.foldl_recheck_jobs held_once hn']
  refine List.map_congr_left fun o ho => ?_
  have held : o.id ∈ ((s.leaveTable id).withRemap r).heldBehind id ↔ o.heldBehind = some id := by
    simp only [State.heldBehind, List.mem_map, List.mem_filter, decide_eq_true_eq]
    refine ⟨fun ⟨k, ⟨hk, hb⟩, hid⟩ => ?_, fun h => ⟨o, ⟨ho, h⟩, rfl⟩⟩
    rwa [← List.inj_on_of_nodup_map hn' hk ho hid]
  simp only [held, State.olderThan, id_bne]
  rfl

theorem State.withoutJob_lasting (id : JobId) (r : Remap) (s : State) :
    (s.withoutJob id r).jobs.map Job.lasting = (s.jobsWithout id).map Job.lasting := by
  have fold (ids : List JobId) (u : State) : (ids.foldl State.recheck u).jobs.map Job.lasting = u.jobs.map Job.lasting := by
    induction ids generalizing u with
    | nil => rfl
    | cons i ids ih => rw [List.foldl_cons, ih, u.recheck_lasting]
  rw [State.withoutJob, fold]
  simp only [State.leaveTable, State.withRemap_jobs, State.withSeq_jobs, State.withPlanner_jobs, State.withJobs_jobs,
      State.jobsWithout, id_bne]

/-- What follows the hold checks changes neither the jobs nor the entries nor the plan: the job has left the table. -/
theorem State.withoutJob_leavesTable {s t : State} (hn : (s.jobs.map Job.id).Nodup) {j : Job} {r : Remap}
    (jobs : t.jobs = (s.withoutJob j.id r).jobs) (entries : t.remap.entries = r.entries)
    (planner : t.planner = (s.withoutJob j.id r).planner) : LeavesTable s t j := by
  have mem {o : Job} (ho : o ∈ s.jobs) (hne : o.id ≠ j.id) : o ∈ s.jobsWithout j.id :=
    List.mem_filter.mpr ⟨ho, by simpa using hne⟩
  rw [State.withoutJob_jobs hn] at jobs
  constructor
  case ids =>
    rw [ids_of_lasting (l' := s.jobsWithout j.id)]
    · rfl
    · rw [jobs, ← State.withoutJob_jobs hn, State.withoutJob_lasting]
  case others =>
    intro o ho hne hb
    rw [jobs]
    exact List.mem_map.mpr ⟨o, mem ho hne, if_neg hb⟩
  case held =>
    intro o ho hne hb
    rw [jobs]
    refine List.mem_map.mpr ⟨o, mem ho hne, (if_pos hb).trans ?_⟩
    have eff : effectiveIn r.entries = t.effective := funext fun l => by rw [State.effective, entries]
    rw [eff, Job.rechecked]
    change (match holder ((s.jobs.filter fun k => decide (k.id ≠ j.id)).takeWhile fun k => decide (k.id ≠ o.id)) o with
      | some h => _
      | none => _) = _
    cases holder ((s.jobs.filter fun k => decide (k.id ≠ j.id)).takeWhile fun k => decide (k.id ≠ o.id)) o with
    | some h => rfl
    | none => cases hl : o.lsn <;> simp [Job.release, hl]
  case plan => rw [planner, State.withoutJob_planner]

end Sys2Proof.Machine

/-! # Chapter 3: the two ways a job ends

A read leaves the table and delivers; a write-type job serves or releases the jobs held behind it and closes. The owner,
a request or the map, counts the end. -/

namespace Sys2Proof.Machine

/-! ### The two ways a job ends (R48, R51) -/

/-- Whether an ending is DONE. -/
def Ending.isDone : Ending → Bool
  | .done .. => true
  | .failed _ | .cancelled => false

/-- What the end of a write-type job makes of the remap table: its PENDING entry becomes ACTIVE, or is dropped. -/
def Remap.afterEnd (r : Remap) (id : JobId) (e : Ending) : Remap :=
  if e.isDone then r.activateOwned id else r.dropOwned id

/-- What the end of a write-type job does once the jobs held behind it are dealt with: its slot is free and its owner is
told. -/
def State.closeWrite (j : Job) (e : Ending) (s : State) : State :=
  let s := s.returnSlot j.slot
  if j.kind = .mapWrite then (s.recordFlush j.target.sector (flushResultOf e)).nextFlushPass else s.ownerEnd j e

theorem State.endRead_eq (s : State) (j : Job) (e : Ending) :
    s.endRead j e = ((s.withoutJob j.id s.remap).deliver j e).ownerEnd j e := rfl

/-- Where the copy serves none of the jobs held behind a write-type job, they are checked again as behind any other. -/
theorem State.foldl_serveHeld {w : Job} {copies : Bool} {ids : List JobId} {s : State}
    (h : copies = true → ∀ o ∈ s.jobs, o.id ∈ ids → o.kind.writeType = true) :
    ids.foldl (State.serveHeld w copies) s = ids.foldl State.recheck s := by
  induction ids generalizing s with
  | nil => rfl
  | cons id ids ih =>
    have serve : s.serveHeld w copies id = s.recheck id := by
      unfold State.serveHeld
      cases ho : s.job? id with
      | none => simp only [State.recheck, ho]
      | some o =>
        obtain ⟨hmem, rfl⟩ := State.job?_some ho
        refine if_neg fun hc => ?_
        simp only [Bool.and_eq_true, Bool.not_eq_true'] at hc
        exact absurd (h hc.1 o hmem (List.mem_cons_self ..)) (by simp [hc.2])
    rw [List.foldl_cons, List.foldl_cons, serve, ih]
    intro hc o ho hid
    obtain ⟨k, hk, hl⟩ := List.mem_map.mp (s.recheck_lasting id ▸ List.mem_map_of_mem (f := Job.lasting) ho)
    obtain ⟨hkid, -, hkind, -⟩ := Job.fields_of_lasting hl
    exact hkind ▸ h hc k hk (hkid ▸ List.mem_cons_of_mem _ hid)

theorem State.endWrite_eq {s : State} {j : Job} {e : Ending}
    (h : copiesToReads j e = true → ∀ o ∈ s.jobs, o.heldBehind = some j.id → o.kind.writeType = true)
    (hn : (s.jobs.map Job.id).Nodup) :
    s.endWrite j e = (s.withoutJob j.id (s.remap.afterEnd j.id e)).closeWrite j e := by
  have told : s.endWrite j e =
      ((((s.leaveTable j.id).withRemap (s.remap.afterEnd j.id e)).heldBehind j.id).foldl
        (State.serveHeld j (copiesToReads j e))
        ((s.leaveTable j.id).withRemap (s.remap.afterEnd j.id e))).closeWrite j e := by
    cases e <;> rfl
  rw [told, State.foldl_serveHeld]
  · rfl
  · intro hc o ho hid
    obtain ⟨k, hk, hkid⟩ := List.mem_map.mp hid
    obtain ⟨hk, hb⟩ := List.mem_filter.mp hk
    have hn' : (((s.leaveTable j.id).withRemap (s.remap.afterEnd j.id e)).jobs.map Job.id).Nodup :=
      hn.sublist (List.filter_sublist.map Job.id)
    obtain rfl := List.inj_on_of_nodup_map hn' hk ho hkid
    exact h hc k (List.mem_of_mem_filter ho) (of_decide_eq_true hb)

theorem copiesToReads_eq_false {j : Job} {e : Ending} (h : e.isDone = false ∨ (j.kind ≠ .hostWrite ∧ j.kind ≠ .refresh)) :
    copiesToReads j e = false := by
  cases e <;> simp_all [copiesToReads, Ending.isDone]

/-- A write-type job that does not end DONE drops its PENDING entry, and the jobs held behind it are checked again. -/
theorem State.endWrite_of_not_done {s : State} (hn : (s.jobs.map Job.id).Nodup) (j : Job) {e : Ending}
    (he : e.isDone = false) : s.endWrite j e = (s.withoutJob j.id (s.remap.dropOwned j.id)).closeWrite j e := by
  have drops : s.remap.afterEnd j.id e = s.remap.dropOwned j.id := if_neg (by simp [he])
  rw [State.endWrite_eq (fun h => absurd h (by simp [copiesToReads_eq_false (.inl he)])) hn, drops]

/-- A change of a job that then ends is lost with it. -/
theorem State.endJob_updateJob (s : State) (j : Job) (f : Job → Job) (hf : ∀ k, k.id = j.id → (f k).id = j.id)
    (e : Ending) : (s.updateJob j.id f).endJob j e = s.endJob j e := by
  have leave : (s.updateJob j.id f).leaveTable j.id = s.leaveTable j.id := by
    have jobs : ((s.updateJob j.id f).jobs.filter fun o => o.id != j.id) = s.jobs.filter fun o => o.id != j.id := by
      simp only [State.updateJob, State.withJobs_jobs]
      induction s.jobs with
      | nil => rfl
      | cons o os ih =>
        by_cases ho : o.id = j.id
        · simp [ho, hf o ho, ih]
        · simp [ho, ih]
    simp only [State.leaveTable, jobs]
    rfl
  simp only [State.endJob, State.endRead, State.endWrite, leave]

/-! ### The request of a job that ends (R58, R59) -/

theorem State.updateRequest_request? (s : State) {tag : Nat} {f : Request → Request} (hf : ∀ r, (f r).tag = r.tag) :
    (s.updateRequest tag f).request? tag = (s.request? tag).map f := by
  simp only [State.request?, State.updateRequest, State.withRequests_requests]
  induction s.requests with
  | nil => rfl
  | cons r rs ih =>
    by_cases hr : r.tag = tag
    · simp [hr, hf]
    · simp [hr, ih]

theorem State.updateRequest_request?_ne (s : State) {tag other : Nat} {f : Request → Request}
    (hf : ∀ r, (f r).tag = r.tag) (hne : other ≠ tag) : (s.updateRequest tag f).request? other = s.request? other := by
  simp only [State.request?, State.updateRequest, State.withRequests_requests]
  induction s.requests with
  | nil => rfl
  | cons r rs ih =>
    by_cases hr : r.tag = tag
    · simp [hr, hf, hne.symm, ih]
    · simp only [List.map_cons, hr, if_false, List.find?_cons, ih]

@[simp] theorem State.updateRequest_link (s : State) (tag f) : (s.updateRequest tag f).link = s.link := rfl

theorem State.compose_outbound (s : State) (r : Record) : (s.compose r).link.outbound = s.link.outbound ++ [r] := by
  rw [State.compose_link]
  split
  · simp [Link.outbound, (‹_ ∧ _› : _ ∧ _).1]
  · simp [Link.outbound]

@[simp] theorem State.compose_request? (s : State) (r : Record) (tag : Nat) :
    (s.compose r).request? tag = s.request? tag := by
  simp [State.request?]

@[simp] theorem Request.countEnd_tag (j e) (r : Request) : (r.countEnd j e).tag = r.tag := by cases e <;> rfl
@[simp] theorem Request.countEnd_kind (j e) (r : Request) : (r.countEnd j e).kind = r.kind := by cases e <;> rfl
@[simp] theorem Request.countEnd_state (j e) (r : Request) : (r.countEnd j e).state = r.state := by cases e <;> rfl

theorem State.unsentData_eq_false {s : State} {tag : Nat} :
    s.unsentData tag = false ↔ ∀ x ∈ s.link.outbound, x.isDataIn tag = false := by
  rw [State.unsentData, Link.outbound, Record.isDataIn_any]

theorem State.unsentData_eq_true {s : State} {tag : Nat} :
    s.unsentData tag = true ↔ ∃ x ∈ s.link.outbound, x.isDataIn tag = true := by
  rw [State.unsentData, Link.outbound, List.any_eq_true]

/-- The owner of a job that ends is its request, which counts the end and may end with it (R58, R59). -/
theorem State.ownerEnd_of_tag (s : State) {j : Job} {tag : Nat} (h : j.owner = .tag tag) (e : Ending) :
    s.ownerEnd j e = (s.updateRequest tag (Request.countEnd j e)).tryEndRequest tag := by
  simp only [State.ownerEnd, h]

theorem State.mem_updateRequest_of_ne {s : State} {tag : Nat} {f : Request → Request} {q : Request}
    (hq : q ∈ s.requests) (hne : q.tag ≠ tag) : q ∈ (s.updateRequest tag f).requests :=
  List.mem_map.mpr ⟨q, hq, if_neg hne⟩

theorem State.mem_endRequest_of_ne {s : State} {tag : Nat} {rec : Option Reason} {q : Request}
    (hq : q ∈ s.requests) (hne : q.tag ≠ tag) : q ∈ (s.endRequest tag rec).requests := by
  unfold State.endRequest
  split
  · simpa using State.mem_updateRequest_of_ne hq hne
  · exact hq

theorem State.mem_tryEndRequest_of_ne {s : State} {tag : Nat} {q : Request} (hq : q ∈ s.requests) (hne : q.tag ≠ tag) :
    q ∈ (s.tryEndRequest tag).requests := by
  unfold State.tryEndRequest
  repeat' split
  · exact State.mem_endRequest_of_ne hq hne
  · exact hq
  · exact hq

/-- What a request makes of the end of one of its jobs, the other requests being as they were before it. -/
theorem State.ownerEnd_requestCounts {s u : State} (hreq : u.requests = s.requests) {j : Job} {tag : Nat}
    (hj : j.owner = .tag tag) (e : Ending) : RequestCounts s (u.ownerEnd j e) u.link tag (Request.countEnd j e) := by
  have counted : (u.updateRequest tag (Request.countEnd j e)).request? tag =
      (s.request? tag).map (Request.countEnd j e) := by
    rw [u.updateRequest_request? (by simp), State.request?, hreq, State.request?]
  rw [State.ownerEnd_of_tag u hj]
  constructor
  case others =>
    exact fun q hq hne => State.mem_tryEndRequest_of_ne (State.mem_updateRequest_of_ne (hreq ▸ hq) hne) hne
  case goesOn =>
    intro r hr h
    rw [hr] at counted
    rw [State.tryEndRequest_goesOn]
    · exact ⟨counted, rfl⟩
    · intro q hq
      obtain rfl := Option.some.inj (counted.symm.trans hq)
      refine .inr (h.imp id fun ⟨hk, hx⟩ => ⟨by simpa using hk, State.unsentData_eq_true.mpr hx⟩)
  case ends =>
    intro r hr hs hk ho hd
    rw [hr] at counted
    rw [State.tryEndRequest_ends counted (by simpa using hs) ho (by simpa using hk)
      fun hread => State.unsentData_eq_false.mpr (hd (by simpa using hread))]
    refine ⟨?_, State.compose_outbound _ _⟩
    rw [State.compose_request?, State.updateRequest_request? _ (by simp), counted]
    rfl

end Sys2Proof.Machine

/-! # Chapter 3: CANCEL

A cancel that takes effect ends the jobs of the request one by one, none of them DONE; an invariant over the jobs still to
end gives the table and the pool at the end. -/

namespace Sys2Proof.Machine

/-! ### An ending that is not DONE (R51) -/

theorem State.deliver_jobs_of_not_done (s : State) (j : Job) {e : Ending} (he : e.isDone = false) :
    (s.deliver j e).jobs = s.jobs := by
  cases e with
  | done => cases he
  | failed r => cases hk : j.kind <;> simp [State.deliver, hk]
  | cancelled => cases hk : j.kind <;> simp [State.deliver, hk]

@[simp] theorem State.closeWrite_jobs (s : State) (j : Job) (e : Ending) : (s.closeWrite j e).jobs = s.jobs := by
  unfold State.closeWrite
  split <;> simp

/-- A job that does not end DONE leaves the table, and what lasts of the others stays. -/
theorem State.endJob_lasting {s : State} (hn : (s.jobs.map Job.id).Nodup) (j : Job) {e : Ending} (he : e.isDone = false) :
    (s.endJob j e).jobs.map Job.lasting = (s.jobsWithout j.id).map Job.lasting := by
  unfold State.endJob
  split
  · rw [State.endWrite_of_not_done hn j he, State.closeWrite_jobs, State.withoutJob_lasting]
  · simp only [State.endRead_eq, State.ownerEnd_frame, State.deliver_jobs_of_not_done _ _ he, State.withoutJob_lasting]

/-- Jobs that end one by one, none of them DONE: an invariant that speaks of the jobs still to end holds at the end, if
each end keeps it. When a job's turn comes it stands in the table as it did, but for what a hold check changes; so do the
jobs after it and those not picked. -/
theorem State.endJobs_induction {pick : Job → Bool} {e : Ending} (he : e.isDone = false) {s : State}
    (hn : (s.jobs.map Job.id).Nodup) {P : List Job → State → Prop} (start : P (s.jobs.filter pick) s)
    (next : ∀ (j k : Job) (left : List Job) (u : State), j ∈ s.jobs → pick j = true → k.lasting = j.lasting →
      (u.jobs.map Job.id).Nodup →
      (u.endJob k e).jobs.map Job.lasting =
        (s.jobs.filter fun o => !pick o || decide (o ∈ left)).map Job.lasting →
      P (j :: left) u → P left (u.endJob k e)) :
    P [] (s.endJobs pick e) ∧ (s.endJobs pick e).jobs.map Job.lasting = (s.jobs.filter fun o => !pick o).map Job.lasting := by
  have run (left : List Job) : ∀ u : State, P left u → (left.map Job.id).Nodup → (∀ j ∈ left, j ∈ s.jobs ∧ pick j = true) →
      u.jobs.map Job.lasting = (s.jobs.filter fun o => !pick o || decide (o ∈ left)).map Job.lasting →
      P [] ((left.map Job.id).foldl (State.endJobId e) u) ∧
        ((left.map Job.id).foldl (State.endJobId e) u).jobs.map Job.lasting =
          (s.jobs.filter fun o => !pick o).map Job.lasting := by
    induction left with
    | nil => exact fun u hp _ _ hu => ⟨hp, by simpa using hu⟩
    | cons j left ih =>
      intro u hp hids hleft hu
      obtain ⟨hj, hpick⟩ := hleft j (List.mem_cons_self ..)
      obtain ⟨hnot, hids⟩ := List.nodup_cons.mp hids
      have hun : (u.jobs.map Job.id).Nodup := by
        rw [ids_of_lasting hu]
        exact hn.sublist (List.filter_sublist.map _)
      have hmem : j.lasting ∈ u.jobs.map Job.lasting := by
        rw [hu]
        exact List.mem_map_of_mem (List.mem_filter.mpr ⟨hj, by simp⟩)
      obtain ⟨k, hk, hkj⟩ := List.mem_map.mp hmem
      have hid : k.id = j.id := (Job.fields_of_lasting hkj).1
      have ends : State.endJobId e u j.id = u.endJob k e := by
        rw [State.endJobId, ← hid, State.job?_of_mem hun hk]
      have rest : (u.endJob k e).jobs.map Job.lasting =
          (s.jobs.filter fun o => !pick o || decide (o ∈ left)).map Job.lasting := by
        have byId : (u.jobsWithout j.id).map Job.lasting =
            (u.jobs.map Job.lasting).filter fun o => decide (o.id ≠ j.id) := by
          rw [List.filter_map]
          rfl
        rw [State.endJob_lasting hun k he, hid, byId, hu, List.filter_map, List.filter_filter]
        refine congrArg _ (List.filter_congr fun o ho => ?_)
        by_cases hoj : o = j
        · subst hoj
          have : o ∉ left := fun h => hnot (List.mem_map_of_mem h)
          simp [this, hpick, Job.lasting]
        · have : o.id ≠ j.id := fun h => hoj (List.inj_on_of_nodup_map hn ho hj h)
          simp [this, hoj, Job.lasting]
      rw [List.map_cons, List.foldl_cons, ends]
      exact ih _ (next j k left u hj hpick hkj hun rest hp) hids (fun o ho => hleft o (List.mem_cons_of_mem _ ho)) rest
  refine run (s.jobs.filter pick) s start (hn.sublist (List.filter_sublist.map _))
    (fun j hj => List.mem_filter.mp hj) ?_
  refine congrArg _ (List.filter_eq_self.mpr fun o ho => ?_).symm
  cases hp : pick o <;> simp [List.mem_filter, ho, hp]

/-! ### CANCEL takes effect (R41, R56, R57) -/

@[simp] theorem State.returnSlot_pool (s : State) (slot : Option Slot) :
    (s.returnSlot slot).pool = s.pool ++ slot.toList := rfl

/-- The kinds of job that a READ, WRITE or ERASE has. -/
def JobKind.ofHost (k : JobKind) : Prop := k = .hostRead ∨ k = .hostWrite ∨ k = .hostErase

/-- A job of a request that ends CANCELLED returns its slot, and beyond the tables nothing changes but the lane. -/
theorem State.endJob_cancelled_host {s : State} (hn : (s.jobs.map Job.id).Nodup) {j : Job} {tag : Nat}
    (hk : j.kind.ofHost) (ho : j.owner = .tag tag) :
    (s.endJob j .cancelled).pool = s.pool ++ j.slot.toList ∧ (s.endJob j .cancelled).sram = s.sram ∧
    (s.endJob j .cancelled).stream = s.stream ∧ (s.endJob j .cancelled).conditions = s.conditions := by
  have write (hw : j.kind = .hostWrite ∨ j.kind = .hostErase) :
      s.endJob j .cancelled = ((s.withoutJob j.id (s.remap.dropOwned j.id)).returnSlot j.slot).ownerEnd j .cancelled := by
    rw [State.endJob, if_pos (by rcases hw with hw | hw <;> rw [hw] <;> rfl), State.endWrite_of_not_done hn j rfl,
      State.closeWrite, if_neg (by rcases hw with hw | hw <;> simp [hw])]
  rcases hk with hk | hw
  · have read : s.endJob j .cancelled = ((s.withoutJob j.id s.remap).returnSlot j.slot).ownerEnd j .cancelled := by
      simp [State.endJob, hk, JobKind.writeType, State.endRead_eq, State.deliver]
    rw [read, State.ownerEnd_of_tag _ ho]
    simp
  · rw [write hw, State.ownerEnd_of_tag _ ho]
    simp

/-- Settles O34: the checks of R55 come down to the one record of the tag; a cancel that takes effect ends the jobs of the
request one by one, each end returning a slot and leaving the rest of the part alone. -/
theorem cancelMarksAndRemoves : Obligations.CancelMarksAndRemoves := by
  refine ⟨fun tag s hs hn => ?answers, fun tag s r hh hr ht hc hj hn hk => ?removes⟩
  case answers =>
    have arrives : exec (.cancel tag) s = .next (s.arriveCancel tag) := onFrame_of_quiet hs.quiet hs.accepting _ _
    rw [arrives]
    refine ⟨fun h => ?_, ?_⟩
    · have unknown : (tagValid tag && s.tagInUse tag) = false := by
        rcases h with h | h
        · simp [tagValid, h]
        · simpa [State.tagInUse] using fun _ => h
      rw [State.arriveCancel, State.checked_of_refused]
      simp [firstRefusal_cons, unknown]
    rintro r hr rfl ht
    have hr' := State.request?_of_mem hn hr
    have known : (tagValid r.tag && s.tagInUse r.tag) = true := by
      simp [tagValid, ht, State.tagInUse_of_request? hr']
    have taken (hk : r.kind = .read ∨ r.kind = .write ∨ r.kind = .erase) :
        s.arriveCancel r.tag = (s.reply (.taken r.tag 0x24 0)).updateRequest r.tag Request.cancelled := by
      rw [State.arriveCancel, State.checked_of_passes]
      · rfl
      · simp [firstRefusal_cons, firstRefusal_nil, known, hr', Request.cancellable, hk]
    have only {q : Request} (hq : q ∈ s.requests) (ht : q.tag = r.tag) : q = r := List.inj_on_of_nodup_map hn hq hr ht
    refine ⟨fun hk => ?_, fun hk ho => ?_, fun hk ho => ?_⟩
    · rw [State.arriveCancel, State.checked_of_refused]
      rcases hk with hk | hk | hk <;> simp [firstRefusal_cons, known, hr', Request.cancellable, hk]
    · rw [taken hk]
      refine congrArg (fun rs => Host.Outcome.next { s.reply (.taken r.tag 0x24 0) with requests := rs })
        (List.map_congr_left fun q hq => ?_)
      split
      case isTrue ht => simp [only hq ht, Request.cancelled, ho]
      case isFalse => rfl
    · rw [taken hk]
      refine congrArg (fun rs => Host.Outcome.next { s.reply (.taken r.tag 0x24 0) with requests := rs })
        ((List.map_congr_left fun q hq => ?_).trans (List.map_id _))
      split
      case isTrue ht => simp [only hq ht, Request.cancelled, ho]
      case isFalse => rfl
  case removes =>
    have due : s.cancelDue tag = true := by
      obtain ⟨j, hj, ho⟩ := hj
      simp only [State.cancelDue, hh, ne_eq, not_false_eq_true, decide_true, Bool.true_and, List.contains_eq_mem,
        decide_eq_true_eq, State.pendingCancels, List.mem_map, List.mem_filter, State.cancelPending, Bool.and_eq_true,
        List.any_eq_true]
      exact ⟨r, ⟨hr, hc, j, hj, by rw [ho, ht]⟩, ht⟩
    refine ⟨s.cancelEffect tag, onStep_of_due due _, ?_⟩
    obtain ⟨⟨hpool, hsram, hstream, hcond⟩, hjobs⟩ := State.endJobs_induction (pick := fun j => decide (j.owner = .tag tag))
      (e := .cancelled) rfl hn (P := fun left u => u.pool ++ left.filterMap Job.slot =
          s.pool ++ (s.jobs.filter fun j => decide (j.owner = .tag tag)).filterMap Job.slot ∧
        u.sram = s.sram ∧ u.stream = s.stream ∧ u.conditions = s.conditions) ⟨rfl, rfl, rfl, rfl⟩ <| by
      rintro j k left u hj hpick hkj hun - ⟨hpool, hsram, hstream, hcond⟩
      obtain ⟨-, howner, hkind, -, hslot, -⟩ := Job.fields_of_lasting hkj
      obtain ⟨kpool, ksram, kstream, kcond⟩ := State.endJob_cancelled_host hun
        (hkind ▸ hk j hj (of_decide_eq_true hpick)) (howner.trans (of_decide_eq_true hpick))
      refine ⟨?_, ksram.trans hsram, kstream.trans hstream, kcond.trans hcond⟩
      rw [kpool, ← hpool, hslot]
      cases hs : j.slot <;> simp [hs]
    have frame := s.endJobs_frame (fun j => decide (j.owner = .tag tag)) .cancelled
    obtain ⟨hsup, hcfg, hmagnet, hpower, hemitted, -⟩ := frame
    have kept : (s.jobs.filter fun j => !decide (j.owner = .tag tag)) = s.jobs.filter fun j => decide (j.owner ≠ .tag tag) := by
      simp
    rw [kept] at hjobs
    refine ⟨ids_of_lasting hjobs, fun j hj => ?_, (List.append_nil _).symm.trans hpool, hsram, hsup, hmagnet, hpower,
      hstream, hcfg, hcond,
      hemitted⟩
    obtain ⟨k, hk, hkj⟩ := List.mem_map.mp (hjobs ▸ List.mem_map_of_mem (f := Job.lasting) hj)
    obtain ⟨-, howner, -⟩ := Job.fields_of_lasting hkj
    obtain ⟨-, hkeeps⟩ := List.mem_filter.mp hk
    exact howner ▸ of_decide_eq_true hkeeps

end Sys2Proof.Machine

/-! # Chapter 3: orphans and stream claims

The ring is kept while a page is present or a stream job is in the table. The orphans leave one by one, and the ring is
released with the last where they alone hold it. -/

namespace Sys2Proof.Machine

/-! ### The release of the ring (R166) -/

/-- Nothing holds the ring any longer: no page is present and no stream job is in the table. -/
def State.ringIdle (s : State) : Prop :=
  s.stream.reserved = true ∧ s.stream.active = none ∧ s.stream.pendingPage = none ∧ s.jobs.any Job.isStream = false

theorem State.releaseRing_of_idle {s : State} (h : s.ringIdle) :
    s.releaseRing = { s with
      pool := s.pool ++ (s.stream.ringFree ++ s.stream.filled.map Filled.slot)
      stream := { s.stream with reserved := false, ringFree := [], filled := [] } } := by
  unfold State.ringIdle at h
  rw [State.releaseRing, if_pos h]
  rfl

theorem State.releaseRing_of_held {s : State} (h : ¬s.ringIdle) : s.releaseRing = s := if_neg h

/-- What becomes of an orphan's slot (R168). -/
theorem State.streamEnd_orphan (s : State) {j : Job} {sector : Nat} {slot : Slot} (hp : j.page = some (.orphan, sector))
    (hs : j.slot = some slot) (e : Ending) : s.streamEnd j e = (s.ringReturn [slot]).releaseRing := by
  simp [State.streamEnd, hp, hs]

theorem Job.isOrphan_iff {j : Job} : j.isOrphan = true ↔ j.kind = .streamRead ∧ ∃ sector, j.page = some (.orphan, sector) := by
  simp only [Job.isOrphan, Job.isStream, Bool.and_eq_true, decide_eq_true_eq, Option.map_eq_some_iff]
  exact and_congr_right fun _ => ⟨fun ⟨p, hp, hf⟩ => ⟨p.2, by rw [hp, ← hf]⟩, fun ⟨k, hp⟩ => ⟨_, hp, rfl⟩⟩

/-- An orphan that ends CANCELLED: its slot is free in the ring, which is released where nothing holds it. -/
theorem State.endJob_orphan_cancelled (s : State) {j : Job} {slot : Slot} (hj : j.isOrphan = true) (ho : j.owner = .stream)
    (hs : j.slot = some slot) :
    s.endJob j .cancelled = ((s.withoutJob j.id s.remap).ringReturn [slot]).releaseRing := by
  obtain ⟨hk, sector, hp⟩ := Job.isOrphan_iff.mp hj
  simp [State.endJob, hk, JobKind.writeType, State.endRead_eq, State.deliver, State.streamEnd_orphan _ hp hs,
    State.ownerEnd, ho]

/-! ### The removal of orphans (R178) -/

/-- The ring while it is kept, with orphans still to be removed: their slots are all it lacks. -/
structure RingKept (s u : State) (left : List Job) : Prop where
  stream   : u.stream = { s.stream with ringFree := u.stream.ringFree }
  ringFree : u.stream.ringFree ++ left.filterMap Job.slot = s.stream.ringFree ++ (s.jobs.filter Job.isOrphan).filterMap Job.slot
  pool     : u.pool = s.pool

/-- The ring released with the slots of the orphans. -/
structure RingReleased (s u : State) : Prop where
  stream : u.stream = { s.stream with reserved := false, ringFree := [], filled := [] }
  pool   : u.pool = s.pool ++ (s.stream.ringFree ++ (s.jobs.filter Job.isOrphan).filterMap Job.slot) ++
    s.stream.filled.map Filled.slot

/-- The orphans are all that holds the ring. -/
def State.onlyOrphansHold (s : State) : Prop :=
  s.stream.reserved = true ∧ s.stream.active = none ∧ s.stream.pendingPage = none ∧
    ∀ j ∈ s.jobs, j.isStream = true → j.isOrphan = true

/-- While orphans are removed one by one the ring is kept, and released with the last where they alone hold it. -/
structure OrphansLeaving (s u : State) (left : List Job) : Prop where
  kept     : left ≠ [] ∨ ¬s.onlyOrphansHold → RingKept s u left
  released : left = [] → s.onlyOrphansHold → RingReleased s u
  orphans  : ∀ j ∈ left, j.isOrphan = true ∧ j ∈ s.jobs
  rest     : u.requests = s.requests ∧ u.link = s.link ∧ u.conditions = s.conditions ∧ u.sram = s.sram

theorem Job.isStream_of_lasting {j k : Job} (h : j.lasting = k.lasting) : j.isStream = k.isStream := by
  obtain ⟨-, -, hk, -⟩ := Job.fields_of_lasting h
  simp [Job.isStream, hk]

theorem Job.isOrphan_of_lasting {j k : Job} (h : j.lasting = k.lasting) : j.isOrphan = k.isOrphan := by
  obtain ⟨-, -, -, -, -, hp⟩ := Job.fields_of_lasting h
  rw [Job.isOrphan, Job.isStream_of_lasting h, hp, Job.isOrphan]

theorem any_isStream_of_lasting {l l' : List Job} (h : l.map Job.lasting = l'.map Job.lasting) :
    l.any Job.isStream = l'.any Job.isStream := by
  have := congrArg (List.any · Job.isStream) h
  rwa [List.any_map, List.any_map] at this

/-- The stream jobs in the table when the orphans but some have gone. -/
theorem any_isStream_left {s : State} {left : List Job} (hleft : ∀ j ∈ left, j.isOrphan = true ∧ j ∈ s.jobs) :
    (s.jobs.filter fun o => !o.isOrphan || decide (o ∈ left)).any Job.isStream = false ↔
      left = [] ∧ ∀ j ∈ s.jobs, j.isStream = true → j.isOrphan = true := by
  have stream {j : Job} (h : j.isOrphan = true) : j.isStream = true := by simp [Job.isStream, (Job.isOrphan_iff.mp h).1]
  simp only [List.any_eq_false, List.mem_filter, Bool.or_eq_true, Bool.not_eq_true', decide_eq_true_eq, and_imp]
  constructor
  · refine fun h => ⟨List.eq_nil_iff_forall_not_mem.mpr fun j hj => ?_, fun j hj hs => ?_⟩
    · exact h j (hleft j hj).2 (.inr hj) (stream (hleft j hj).1)
    · exact Bool.eq_true_of_not_eq_false fun ho => h j hj (.inl ho) hs
  · rintro ⟨rfl, h⟩ j hj (ho | hm) hs
    · simp [h j hj hs] at ho
    · simp at hm

/-- One more orphan leaves. -/
theorem OrphansLeaving.step {s u : State} {j k : Job} {left : List Job} (h : OrphansLeaving s u (j :: left))
    (hj : k.lasting = j.lasting) (ho : j.owner = .stream) (hs : j.slot.isSome = true)
    (hjobs : (u.endJob k .cancelled).jobs.map Job.lasting =
      (s.jobs.filter fun o => !o.isOrphan || decide (o ∈ left)).map Job.lasting) :
    OrphansLeaving s (u.endJob k .cancelled) left := by
  obtain ⟨slot, hs⟩ := Option.isSome_iff_exists.mp hs
  obtain ⟨-, hko, -, -, hks, -⟩ := Job.fields_of_lasting hj
  have orphan : k.isOrphan = true := by
    rw [Job.isOrphan_of_lasting hj]
    exact (h.orphans j (List.mem_cons_self ..)).1
  have orphans : ∀ o ∈ left, o.isOrphan = true ∧ o ∈ s.jobs := fun o ho => h.orphans o (List.mem_cons_of_mem _ ho)
  obtain ⟨hstream, hfree, hpool⟩ := h.kept (.inl (List.cons_ne_nil _ _))
  rw [State.endJob_orphan_cancelled u orphan (hko.trans ho) (hks.trans hs)] at hjobs ⊢
  generalize hw : (u.withoutJob k.id u.remap).ringReturn [slot] = w at hjobs ⊢
  have wstream : w.stream = { s.stream with ringFree := u.stream.ringFree ++ [slot] } := by
    simp only [← hw, State.ringReturn, State.withStream_stream, State.withoutJob_frame]
    rw [hstream]
  have wpool : w.pool = s.pool := by simp [← hw, hpool]
  have wfree : u.stream.ringFree ++ [slot] ++ left.filterMap Job.slot =
      s.stream.ringFree ++ (s.jobs.filter Job.isOrphan).filterMap Job.slot := by
    simpa [hs] using hfree
  have idle : w.ringIdle ↔ left = [] ∧ s.onlyOrphansHold := by
    simp only [State.releaseRing_frame] at hjobs
    rw [State.ringIdle, any_isStream_of_lasting hjobs, any_isStream_left orphans, wstream, State.onlyOrphansHold]
    tauto
  have rest : w.requests = s.requests ∧ w.link = s.link ∧ w.conditions = s.conditions ∧ w.sram = s.sram := by
    rw [← hw]
    simpa using h.rest
  by_cases hidle : w.ringIdle
  · obtain ⟨rfl, only⟩ := idle.mp hidle
    rw [State.releaseRing_of_idle hidle]
    refine ⟨fun hn => absurd only (by simpa using hn), fun _ _ => ⟨?_, ?_⟩, orphans, rest⟩
    · simp [wstream]
    · simp only [wpool, wstream, ← wfree, List.filterMap_nil, List.append_nil, List.append_assoc]
  · rw [State.releaseRing_of_held hidle]
    refine ⟨fun _ => ⟨by rw [wstream], by rw [wstream]; exact wfree, wpool⟩,
      fun hl ho => absurd (idle.mpr ⟨hl, ho⟩) hidle, orphans, rest⟩

/-! ### The fetcher's claim (R167) -/

/-- The STREAM READ for a page sector under a given entry number, before its hold check. -/
def State.streamRead (s : State) (place : Place) (sector lsn : Nat) (slot : Slot) (id : JobId) : Job :=
  newJob s.cfg .stream .streamRead (some lsn) (s.effective lsn) (some slot) false false (some (place, sector)) id

/-- The fetch pointer moves on to the page's next sector, or off the page. -/
theorem Stream.advanceFetch_eq {t : Stream} {place : Place} {sector : Nat} {p : Page}
    (hf : t.fetch = some (place, sector)) (hp : t.pageAt place = some p) :
    t.advanceFetch = if sector + 1 < p.sectors then some (place, sector + 1)
      else if place = .active ∧ t.pendingPage ≠ none then some (.pending, 0) else none := by
  cases place with
  | active =>
    have ha : t.active = some p := hp
    simp [Stream.advanceFetch, hf, ha, Stream.fetchPending, Option.isSome_iff_ne_none]
  | pending =>
    have hq : t.pendingPage = some p := hp
    simp [Stream.advanceFetch, hf, hq]
  | orphan => cases hp

theorem State.streamClaimMet_eq {s : State} {place : Place} {sector : Nat} {p : Page} {slot : Slot} {rest : List Slot}
    (hf : s.stream.fetch = some (place, sector)) (hr : s.stream.ringFree = slot :: rest)
    (hp : s.stream.pageAt place = some p) :
    s.streamClaimMet = (s.withStream { s.stream with ringFree := rest, fetch := s.stream.advanceFetch }).createJob []
      (s.streamRead place sector (p.startLsn + sector) slot) := by
  simp only [State.streamClaimMet, hf, hr, Stream.lsnOf, hp, Option.map_some]
  rfl

/-- Settles O58: the orphans end one by one with the ring kept, and released with the last where they alone hold it; the
claim that is met creates the one job. -/
theorem orphansLeaveAndClaimsAreMet : Obligations.OrphansLeaveAndClaimsAreMet := by
  refine ⟨fun s hh hex hn hslots => ?orphans, fun s place sector p slot rest hf hr hp hlen => ?claim⟩
  case orphans =>
    intro freed last
    have due : s.orphansDue = true := by
      simpa [State.orphansDue, hh] using hex
    obtain ⟨hleaving, hjobs⟩ := State.endJobs_induction (pick := Job.isOrphan) (e := .cancelled) rfl hn
      (P := fun left u => OrphansLeaving s u left)
      ⟨fun _ => ⟨rfl, rfl, rfl⟩, fun h => by
        obtain ⟨j, hj, ho⟩ := hex
        exact absurd (List.mem_filter.mpr ⟨hj, ho⟩) (h ▸ List.not_mem_nil), fun j hj => (List.mem_filter.mp hj).symm,
        rfl, rfl, rfl, rfl⟩
      (fun j k left u hj ho hkj _ hjobs h => h.step hkj (hslots j hj ho).1 (hslots j hj ho).2 hjobs)
    generalize hu : s.endJobs Job.isOrphan .cancelled = u at hleaving hjobs
    have ended : u.orphanCount = 0 := by
      have : (u.jobs.map Job.lasting).countP Job.isOrphan = 0 := by
        rw [hjobs, List.countP_map]
        exact List.countP_eq_zero.mpr fun j hj => by
          simpa [Job.isOrphan_of_lasting (show j.lasting.lasting = j.lasting from rfl)] using (List.mem_filter.mp hj).2
      rwa [List.countP_map] at this
    have not_idle : ¬u.ringIdle := fun hidle => by
      by_cases only : s.onlyOrphansHold
      · have := (hleaving.released rfl only).stream ▸ hidle.1
        cases this
      · obtain ⟨hr, ha, hp, hj⟩ := hidle
        refine only ?_
        have streams : (s.jobs.filter fun o => !o.isOrphan || decide (o ∈ [])).any Job.isStream = false := by
          simpa [any_isStream_of_lasting hjobs] using hj
        have := (any_isStream_left (by simp)).mp streams
        rw [(hleaving.kept (.inr only)).stream] at hr ha hp
        exact ⟨hr, ha, hp, this.2⟩
    have removed : s.removeOrphans = u := by rw [State.removeOrphans, hu, State.releaseRing_of_held not_idle]
    have hsup : u.sup = s.sup := by simp [← hu]
    have hemitted : u.emitted = s.emitted := by simp [← hu]
    obtain ⟨hreq, hlink, hcond, hsram⟩ := hleaving.rest
    refine ⟨u, removed ▸ onStep_of_due due _, ids_of_lasting hjobs, ended, fun hr hl => ?_, fun h => ?_,
      hreq, hlink, hcond, hsup, hsram, hemitted⟩
    · exact ⟨(hleaving.released rfl ⟨hr, hl⟩).stream, (hleaving.released rfl ⟨hr, hl⟩).pool⟩
    · have kept := hleaving.kept (.inr fun ⟨hr, hl⟩ => h.elim (by simp [hr]) (absurd hl))
      refine ⟨?_, kept.pool⟩
      rw [kept.stream, ← List.append_nil u.stream.ringFree]
      exact congrArg (fun l => { s.stream with ringFree := l }) kept.ringFree
  case claim =>
    have due : s.streamClaimDue = true := by
      have : 0 < 256 - s.jobs.length := by omega
      simp [State.streamClaimDue, State.streamClaim, hf, hr, State.freeEntries, tableEntries, this]
    obtain ⟨id, hid⟩ := Option.isSome_iff_exists.mp (freshId_isSome hlen)
    obtain ⟨fresh, -⟩ := freshId_some hid
    let j := enterTable s.jobs (s.effective (p.startLsn + sector)) (s.streamRead place sector (p.startLsn + sector) slot id)
    have jobs : s.streamClaimMet.jobs = s.jobs ++ [j] := by
      rw [State.streamClaimMet_eq hf hr hp]
      exact State.createJob_jobs (s := s.withStream _) hid rfl
    have stream : s.streamClaimMet.stream = { s.stream with ringFree := rest, fetch := s.stream.advanceFetch } := by
      rw [State.streamClaimMet_eq hf hr hp]
      simp
    exact ⟨s.streamClaimMet, j, onStep_of_due due _, jobs, fresh, rfl, rfl, rfl, rfl, rfl, rfl, rfl, rfl, rfl, rfl,
      by rw [stream], by rw [stream]; exact Stream.advanceFetch_eq hf hp, by rw [stream], by simp, by simp, by simp⟩

end Sys2Proof.Machine

/-! # Chapter 3: how each kind of job ends

The ends of reads, of writers behind which no read waits, and of MAP WRITEs, each as the statement about a sector end
says it. -/

namespace Sys2Proof.Machine

/-! ### The statements about an end, carried over from an equal table -/

theorem LeavesTable.congr {s u t : State} {j : Job} (h : LeavesTable u t j) (hjobs : u.jobs = s.jobs)
    (hplanner : u.planner = s.planner) : LeavesTable s t j := by
  obtain ⟨ids, others, held, plan⟩ := h
  rw [hjobs] at ids others held
  rw [hplanner] at plan
  exact ⟨ids, others, held, plan⟩

/-! ### The open action once it is closed (R81, R98) -/

theorem State.leaveTable_seq {s : State} (h : s.seq.openAction = none) (id : JobId) : (s.leaveTable id).seq = s.seq := by
  have : s.seq = { s.seq with openAction := none } := by rw [← h]
  simp only [State.leaveTable, State.withSeq_seq, State.withPlanner_seq, State.withJobs_seq, h, Option.map_none]
  exact this.symm

theorem State.endRead_seq {s : State} (h : s.seq.openAction = none) (j : Job) (e : Ending) : (s.endRead j e).seq = s.seq := by
  simp [State.endRead, State.leaveTable_seq h]

theorem State.serveHeld_seq {s : State} (h : s.seq.openAction = none) (w : Job) (copies : Bool) (id : JobId) :
    (s.serveHeld w copies id).seq = s.seq := by
  unfold State.serveHeld
  repeat' split
  · rw [State.copyFrom, State.endRead_seq]
    all_goals split <;> simp [h]
  · simp
  · rfl

theorem State.endWrite_seq {s : State} (h : s.seq.openAction = none) (j : Job) (e : Ending) : (s.endWrite j e).seq = s.seq := by
  have fold (ids : List JobId) (u : State) (hu : u.seq.openAction = none) :
      (ids.foldl (State.serveHeld j (copiesToReads j e)) u).seq = u.seq := by
    induction ids generalizing u with
    | nil => rfl
    | cons i ids ih => rw [List.foldl_cons, ih _ (by rwa [State.serveHeld_seq hu]), State.serveHeld_seq hu]
  have left := State.leaveTable_seq h j.id
  unfold State.endWrite
  dsimp only
  split <;> (split <;> simp [fold, left, h])

/-- With no action open the end of a job changes nothing of the sequencer. -/
theorem State.endJob_seq {s : State} (h : s.seq.openAction = none) (j : Job) (e : Ending) : (s.endJob j e).seq = s.seq := by
  unfold State.endJob
  split
  · exact State.endWrite_seq h j e
  · exact State.endRead_seq h j e

/-! ### A stream sector's slot (R166, R168) -/

theorem State.not_ringIdle_of_page {s : State} {place : Place} (h : (s.stream.pageAt place).isSome = true) : ¬s.ringIdle := by
  rintro ⟨-, ha, hp, -⟩
  cases place <;> simp [Stream.pageAt, ha, hp] at h

theorem State.streamEnd_done (s : State) {j : Job} {place : Place} {sector : Nat} {slot : Slot}
    (hp : j.page = some (place, sector)) (hs : j.slot = some slot) (hpage : (s.stream.pageAt place).isSome = true)
    (blank c content) : s.streamEnd j (.done blank c content) = s.slotFill place sector slot := by
  have present : place ≠ .orphan := by rintro rfl; simp [Stream.pageAt] at hpage
  simp only [State.streamEnd, hp, hs, if_neg present]
  refine State.releaseRing_of_held (State.not_ringIdle_of_page (place := place) ?_)
  cases place <;> exact hpage

theorem State.streamEnd_failed (s : State) {j : Job} {place : Place} {sector : Nat} {slot : Slot}
    (hp : j.page = some (place, sector)) (hs : j.slot = some slot) (hpage : (s.stream.pageAt place).isSome = true)
    (reason : Reason) : s.streamEnd j (.failed reason) =
      (((s.fillSlot slot zeroBytes).slotFill place sector slot).raise .streamDataError).updatePage place
        fun p => { p with failedSectors := p.failedSectors + 1 } := by
  have present : place ≠ .orphan := by rintro rfl; simp [Stream.pageAt] at hpage
  simp only [State.streamEnd, hp, hs, if_neg present]
  refine State.releaseRing_of_held (State.not_ringIdle_of_page (place := place) ?_)
  cases place with
  | active => simpa [State.updatePage, Stream.pageAt, State.slotFill] using hpage
  | pending => simpa [State.updatePage, Stream.pageAt, State.slotFill] using hpage
  | orphan => exact absurd rfl present

/-! ### A read-type job that ends FAILED (R51, R101, R150, R168) -/

theorem State.deliver_entries (s : State) (j : Job) (e : Ending) : (s.deliver j e).remap.entries = s.remap.entries := by
  unfold State.deliver
  repeat' split
  all_goals simp [State.recordLoad]

theorem State.endRead_leavesTable {s : State} (hn : (s.jobs.map Job.id).Nodup) {j : Job} {e : Ending}
    (h : ((s.withoutJob j.id s.remap).deliver j e).jobs = (s.withoutJob j.id s.remap).jobs) :
    LeavesTable s (s.endRead j e) j := by
  refine State.withoutJob_leavesTable hn (r := s.remap) ?_ ?_ ?_
  · rw [State.endRead_eq, ← h]
    simp
  · rw [State.endRead_eq]
    simp [State.deliver_entries]
  · rw [State.endRead_eq]
    simp

theorem State.endRead_of_stream (s : State) {j : Job} (hk : j.kind = .streamRead) (ho : j.owner = .stream) {e : Ending}
    (he : ∀ c content, e = .done false c content → c ≤ s.cfg.rt) :
    s.endRead j e = (s.withoutJob j.id s.remap).streamEnd j e := by
  cases e with
  | done blank c content =>
    cases blank with
    | true => simp [State.endRead_eq, State.deliver, hk, State.ownerEnd, ho]
    | false =>
      have := (he c content rfl).not_gt
      simp [State.endRead_eq, State.deliver, hk, State.ownerEnd, ho, this]
  | failed => simp [State.endRead_eq, State.deliver, hk, State.ownerEnd, ho]
  | cancelled => simp [State.endRead_eq, State.deliver, hk, State.ownerEnd, ho]

theorem State.endRead_of_map (s : State) {j : Job} (hk : j.kind = .mapRead) (ho : j.owner = .map) (e : Ending) :
    s.endRead j e = (s.withoutJob j.id s.remap).recordLoad j.target.sector (loadResultOf e) := by
  rw [State.endRead_eq]
  cases e with
  | done blank c content => cases blank <;> simp [State.deliver, hk, State.ownerEnd, ho]
  | failed => simp [State.deliver, hk, State.ownerEnd, ho]
  | cancelled => simp [State.deliver, hk, State.ownerEnd, ho]

/-- Whether a stream job other than the one that leaves is in the table. -/
theorem State.withoutJob_any_isStream {s : State} (id : JobId) (r : Remap) :
    (s.withoutJob id r).jobs.any Job.isStream = true ↔ ∃ k ∈ s.jobs, k.id ≠ id ∧ k.isStream = true := by
  rw [any_isStream_of_lasting (s.withoutJob_lasting id r), List.any_eq_true]
  simp [State.jobsWithout, and_assoc]

theorem State.endRead_failed {s : State} (hn : (s.jobs.map Job.id).Nodup) (j : Job) (reason : Reason) :
    ReadFails s (s.endRead j (.failed reason)) j reason := by
  constructor
  case left => exact State.endRead_leavesTable hn (State.deliver_jobs_of_not_done _ _ rfl)
  case host =>
    intro tag hk ho
    have eq : s.endRead j (.failed reason) =
        ((s.withoutJob j.id s.remap).returnSlot j.slot).ownerEnd j (.failed reason) := by
      simp [State.endRead_eq, State.deliver, hk]
    rw [← Request.countEnd_failed]
    refine ⟨?_, ?_⟩
    · have counts := State.ownerEnd_requestCounts (s := s) (u := (s.withoutJob j.id s.remap).returnSlot j.slot) (by simp) ho
        (.failed reason)
      rw [eq]
      simpa using counts
    · rw [eq, State.ownerEnd_of_tag _ ho]
      simp
  case stream =>
    intro place sector slot hk ho hp hs hpage
    rw [State.endRead_of_stream s hk ho (by simp), State.streamEnd_failed _ hp hs (by simpa using hpage)]
    cases place with
    | active => simp [State.updatePage, State.slotFill, State.raise_conditions, State.fillSlot, Stream.waiting]
    | pending => simp [State.updatePage, State.slotFill, State.raise_conditions, State.fillSlot, Stream.waiting]
    | orphan => cases hpage
  case orphan =>
    intro sector slot hk ho hp hs ringStays
    rw [State.endRead_of_stream s hk ho (by simp), State.streamEnd_orphan _ hp hs]
    generalize hw : (s.withoutJob j.id s.remap).ringReturn [slot] = w
    have wstream : w.stream = { s.stream with ringFree := s.stream.ringFree ++ [slot] } := by
      simp [← hw, State.ringReturn]
    have wpool : w.pool = s.pool := by simp [← hw]
    have stays : ringStays ↔ ¬w.ringIdle := by
      have jobs : w.jobs = (s.withoutJob j.id s.remap).jobs := by simp [← hw]
      rw [State.ringIdle, wstream, jobs, ← Bool.not_eq_true, State.withoutJob_any_isStream]
      simp only [ringStays]
      rw [← Bool.not_eq_true]
      generalize (∃ k ∈ s.jobs, k.id ≠ j.id ∧ k.isStream = true) = another
      grind
    have rest : w.releaseRing.sram = s.sram ∧ w.releaseRing.conditions = s.conditions ∧
        w.releaseRing.requests = s.requests ∧ w.releaseRing.link = s.link ∧ w.releaseRing.remap = s.remap := by
      rw [← hw]
      simp
    refine ⟨fun h => ?_, fun h => ?_, rest⟩
    · rw [State.releaseRing_of_held (stays.mp h), wstream]
      exact ⟨wpool, rfl, .refl _⟩
    · rw [State.releaseRing_of_idle (not_not.mp (mt stays.mpr h))]
      simp [wstream, wpool]
  case map =>
    intro hk ho
    rw [State.endRead_of_map s hk ho]
    simp [State.recordLoad, loadResultOf]


/-! ### A HOST WRITE, HOST ERASE or REFRESH that ends DONE (R51, R59, R146) -/

theorem Request.countEnd_done_eq (j : Job) (blank : Bool) (c : Nat) (content : Option MapSector) :
    Request.countEnd j (.done blank c content) =
      Request.doneJob (blank && decide (j.kind = .hostRead)) (j.kind.writeType && decide (1 ≤ j.sparesTried)) := rfl

/-- The jobs held behind a write-type job that ends DONE are not served by the copy: it is a HOST ERASE, or none of them
reads. -/
theorem State.endWrite_done {s : State} (hn : (s.jobs.map Job.id).Nodup) {j : Job}
    (hk : j.kind = .hostWrite ∨ j.kind = .hostErase ∨ j.kind = .refresh)
    (hheld : j.kind = .hostErase ∨ ∀ h ∈ s.jobs, h.heldBehind = some j.id → h.kind.writeType = true) (blank c content) :
    WriterDone s (s.endWrite j (.done blank c content)) j := by
  have eq : s.endWrite j (.done blank c content) =
      ((s.withoutJob j.id (s.remap.activateOwned j.id)).returnSlot j.slot).ownerEnd j (.done blank c content) := by
    have noCopy : copiesToReads j (.done blank c content) = true →
        ∀ o ∈ s.jobs, o.heldBehind = some j.id → o.kind.writeType = true := by
      rcases hheld with he | h
      · simp [copiesToReads, he]
      · exact fun _ => h
    rw [State.endWrite_eq noCopy hn, State.closeWrite, if_neg (by rcases hk with hk | hk | hk <;> simp [hk])]
    rfl
  have counts : Request.countEnd j (.done blank c content) = Request.doneJob false (decide (1 ≤ j.sparesTried)) := by
    rw [Request.countEnd_done_eq]
    rcases hk with hk | hk | hk <;> simp [hk, JobKind.writeType]
  rw [eq]
  constructor
  case left =>
    refine State.withoutJob_leavesTable hn (r := s.remap.activateOwned j.id) ?_ ?_ ?_ <;> simp
  case host =>
    intro tag ho
    rw [← counts]
    have := State.ownerEnd_requestCounts (s := s)
      (u := (s.withoutJob j.id (s.remap.activateOwned j.id)).returnSlot j.slot) (by simp) ho (.done blank c content)
    simpa using this
  case refresh =>
    intro ho
    simp [State.ownerEnd, ho]
  case rest =>
    refine ⟨by simp, by simp, ?_, by simp⟩
    cases ho : j.owner <;> simp [State.ownerEnd, ho]
  all_goals simp

/-! ### A MAP WRITE that ends (R51, R154 to R156) -/

theorem State.recordFlush_remap (s : State) (k : Nat) (res : FlushSector) :
    (s.recordFlush k res).remap =
      { s.remap with flush := s.remap.flush.map fun f => { f with sectors := f.sectors.set k res } } := by
  unfold State.recordFlush
  cases hf : s.remap.flush with
  | none => exact (by rw [← hf] : s.remap = { s.remap with flush := none })
  | some f => cases ho : f.owner <;> simp [State.updateFlush, ho, hf]

theorem FlushContext.firstPassDone_iff {f : FlushContext} :
    f.firstPassDone = true ↔ ∀ x ∈ f.sectors.take 16, x = .done := by
  simp [FlushContext.firstPassDone]

/-- The phase of a flush after a result has been recorded. -/
def FlushContext.nextPhase (f : FlushContext) : FlushPhase :=
  if f.phase = .writing0to15 ∧ f.firstPassDone = true then .writing16 else f.phase

/-- The pass of sector 16 begins where sectors 0 to 15 are DONE; its claim is withdrawn only if a reason stands and the
sector is still to be written. -/
theorem State.nextFlushPass_eq {s : State} {f : FlushContext} (hf : s.remap.flush = some f)
    (h16 : s.sup.inhibit = [] ∨ f.firstPassDone = false ∨ ∃ r, f.sectors[16]? = some (.failed r)) :
    s.nextFlushPass = s.withRemap { s.remap with flush := some { f with phase := f.nextPhase } } := by
  unfold State.nextFlushPass FlushContext.nextPhase
  simp only [hf]
  by_cases hp : f.phase = .writing0to15 ∧ f.firstPassDone = true
  · simp only [hp, and_self, if_true]
    split
    case isTrue => simp [State.updateFlush, hf]
    case isFalse hi =>
      obtain ⟨r, hr⟩ := (h16.resolve_left hi).resolve_left (by simp [hp])
      simp [State.failSector, State.updateFlush, hf, hr]
  · simp only [if_neg hp]
    rw [← hf]
    rfl

/-- The request of a FLUSH MAP counts the result of one of its map sectors. -/
theorem Request.countSector_eq (r : Request) :
    r.countSector .done = r.doneJob false false ∧
      ∀ reason, r.countSector (.failed reason) = r.failedJob none reason := by
  refine ⟨rfl, fun reason => ?_⟩
  cases h : r.firstFailure <;> simp [Request.countSector, Request.failedJob, h]

theorem State.recordFlush_request? {s : State} {f : FlushContext} {tag : Nat} {r : Request} (hf : s.remap.flush = some f)
    (ho : f.owner = some tag) (hr : s.request? tag = some r) (k : Nat) (res : FlushSector) :
    (s.recordFlush k res).request? tag = some (r.countSector res) := by
  have hr' : (s.updateFlush fun f => { f with sectors := f.sectors.set k res }).request? tag = some r := hr
  simp only [State.recordFlush, hf, ho]
  rw [State.updateRequest_request? _ (by intro r; cases res <;> rfl), hr']
  rfl

/-- A MAP WRITE that ends records its result: DONE with an empty inhibit set and no entry of its own, or FAILED. -/
theorem State.endWrite_map {s : State} (hn : (s.jobs.map Job.id).Nodup) {j : Job} (hk : j.kind = .mapWrite)
    {f : FlushContext} (hf : s.remap.flush = some f) (hl : f.sectors.length = 17)
    (hw : f.sectors[j.target.sector]? = some .writing) {e : Ending}
    (he : (∃ reason, e = .failed reason) ∨
      ((∃ blank c content, e = .done blank c content) ∧ s.sup.inhibit = [] ∧ ∀ x ∈ s.remap.entries, x.ownedBy j.id = false)) :
    MapWriteEnds s (s.endWrite j e) f j (flushResultOf e) := by
  obtain ⟨r, hafter, hrflush⟩ : ∃ r, s.remap.afterEnd j.id e = r ∧ r.flush = some f := by
    refine ⟨_, rfl, ?_⟩
    rcases he with ⟨reason, rfl⟩ | ⟨⟨blank, c, content, rfl⟩, -, hown⟩
    · exact hf
    · have unowned : s.remap.owned j.id = none := List.find?_eq_none.mpr fun x hx => by simp [hown x hx]
      simpa [Remap.afterEnd, Ending.isDone, Remap.activateOwned, unowned] using hf
  let w := (s.withoutJob j.id r).returnSlot j.slot
  let f' : FlushContext := { f with sectors := f.sectors.set j.target.sector (flushResultOf e) }
  have wflush : (w.recordFlush j.target.sector (flushResultOf e)).remap = { r with flush := some f' } := by
    rw [State.recordFlush_remap]
    simp [w, hrflush, f']
  have pass : (w.recordFlush j.target.sector (flushResultOf e)).sup.inhibit = [] ∨ f'.firstPassDone = false ∨
      ∃ reason, f'.sectors[16]? = some (.failed reason) := by
    rcases he with ⟨reason, rfl⟩ | ⟨-, hi, -⟩
    · have inTable : j.target.sector < 17 := hl ▸ (List.getElem?_eq_some_iff.mp hw).1
      rcases Nat.lt_or_ge j.target.sector 16 with hlt | hge
      · refine .inr (.inl (Bool.eq_false_iff.mpr fun hd => ?_))
        have := FlushContext.firstPassDone_iff.mp hd (.failed reason)
          (List.mem_take_iff_getElem.mpr ⟨j.target.sector, by simp [f', hl, hlt], by simp [f', flushResultOf]⟩)
        cases this
      · have h16 : j.target.sector = 16 := by omega
        exact .inr (.inr ⟨reason, by simp [f', h16, hl, flushResultOf]⟩)
    · exact .inl (by simpa [w] using hi)
  have eq : s.endWrite j e = (w.recordFlush j.target.sector (flushResultOf e)).withRemap
      { r with flush := some { f' with phase := f'.nextPhase } } := by
    have noCopy : copiesToReads j e = false := copiesToReads_eq_false (.inr (by simp [hk]))
    rw [State.endWrite_eq (fun h => absurd h (by simp [noCopy])) hn, hafter, State.closeWrite, if_pos hk]
    rw [State.nextFlushPass_eq (f := f') (by rw [wflush]) pass, wflush]
  rw [eq]
  constructor
  case left => exact State.withoutJob_leavesTable hn (r := r) (by simp [w]) (by simp) (by simp [w])
  case pool => simp [w]
  case flush => simp [f', FlushContext.nextPhase, FlushContext.firstPassDone_iff]
  case request =>
    intro tag q ho hq
    have hq' : w.request? tag = some q := by simpa [State.request?, w] using hq
    have counted := State.recordFlush_request? (s := w) (by simpa [w] using hrflush) ho hq' j.target.sector (flushResultOf e)
    refine ⟨fun hd => ?_, fun reason hr => ?_⟩
    · rw [hd] at counted
      exact hd ▸ counted.trans (congrArg some q.countSector_eq.1)
    · rw [hr] at counted
      exact hr ▸ counted.trans (congrArg some (q.countSector_eq.2 reason))
  case rest => simp [w]

end Sys2Proof.Machine

/-! # Chapter 3: the sector end

The sector end closes the open action; what it does to the job is then the end of a job, or one attempt fewer. -/

namespace Sys2Proof.Machine

/-! ### The sector end (R98) -/

/-- The open action is over. -/
def State.closed (s : State) : State := s.withSeq { s.seq with openAction := none }

@[simp] theorem State.closed_jobs (s : State) : s.closed.jobs = s.jobs := rfl
@[simp] theorem State.closed_seq (s : State) : s.closed.seq = { s.seq with openAction := none } := rfl

/-- The sector end of an open action whose job is in the table does to the job what the action does. -/
theorem State.sectorEnd_eq {s : State} {act : OpenAction} {j : Job} (hh : s.planner.head = .revolving)
    (ho : s.seq.openAction = some act) (hact : act.job = some j.id) (hj : s.job? j.id = some j) (o : ReadOutcome) :
    s.sectorEnd o = s.closed.complete act.action j o := by
  have hj' : s.closed.job? j.id = some j := hj
  simp only [State.sectorEnd, hh, ho, hact]
  change (match s.closed.job? j.id with
    | some j => s.closed.complete act.action j o
    | none => s.closed) = _
  rw [hj']

/-! ### The checks of a verify and a blank check (R102, R103) -/

theorem State.equalsSlot_iff {s : State} {j : Job} {field : Field} : s.equalsSlot j field = true ↔ s.Holds j field := by
  unfold State.equalsSlot State.Holds
  split
  · cases hf : s.remap.flush <;> cases hm : fieldMapSector field <;> simp
  · cases hs : j.slot with
    | none => simp
    | some slot =>
      simp only [Option.some.injEq, exists_eq_left']
      exact decide_eq_true_iff

theorem State.verifies_iff {s : State} {j : Job} {o : ReadOutcome} : s.verifies j o = true ↔ s.CheckSucceeds .verify j o := by
  cases o <;> simp [State.verifies, State.CheckSucceeds, State.equalsSlot_iff]

/-- The two actions that check what has been written. -/
def Action.checks (a : Action) : Prop := a = .verify ∨ a = .blankCheck

/-- A check that succeeds ends its job DONE. -/
theorem State.complete_of_success {s : State} {a : Action} (ha : a.checks) {j : Job} {o : ReadOutcome}
    (h : s.CheckSucceeds a j o) : ∃ blank, s.complete a j o = s.endJob j (.done blank 0 none) := by
  rcases ha with rfl | rfl
  · exact ⟨false, if_pos (State.verifies_iff.mpr h)⟩
  · exact ⟨true, if_pos h⟩

theorem State.complete_of_failure {s : State} {a : Action} (ha : a.checks) {j : Job} {o : ReadOutcome}
    (h : ¬s.CheckSucceeds a j o) : s.complete a j o = s.checkFailed j := by
  rcases ha with rfl | rfl
  · exact if_neg (mt State.verifies_iff.mp h)
  · exact if_neg h

/-! ### The statements about an end, carried over from the state with the action closed -/

theorem LeavesTable.of_closed {s t : State} {j : Job} (h : LeavesTable s.closed t j) : LeavesTable s t j := h.congr rfl rfl

theorem RequestCounts.of_closed {s t : State} {link : Link} {tag : Nat} {count : Request → Request}
    (h : RequestCounts s.closed t link tag count) : RequestCounts s t link tag count := ⟨h.others, h.goesOn, h.ends⟩

theorem ReadFails.of_closed {s t : State} {j : Job} {reason : Reason} (h : ReadFails s.closed t j reason) :
    ReadFails s t j reason where
  left := h.left.of_closed
  host := fun tag hk ho => ⟨(h.host tag hk ho).1.of_closed, (h.host tag hk ho).2⟩
  stream := by
    have raised : (s.closed.raise .streamDataError).conditions = (s.raise .streamDataError).conditions := by
      rw [State.raise_conditions, State.raise_conditions]
      rfl
    have stream := h.stream
    simp only [raised] at stream
    exact stream
  orphan := h.orphan
  map := h.map

theorem WriterDone.of_closed {s t : State} {j : Job} (h : WriterDone s.closed t j) : WriterDone s t j where
  left := h.left.of_closed
  remap := h.remap
  pool := h.pool
  host := fun tag ho => (h.host tag ho).of_closed
  refresh := h.refresh
  rest := h.rest

theorem MapWriteEnds.of_closed {s t : State} {f : FlushContext} {j : Job} {result : FlushSector}
    (h : MapWriteEnds s.closed t f j result) : MapWriteEnds s t f j result where
  left := h.left.of_closed
  pool := h.pool
  flush := h.flush
  request := h.request
  rest := h.rest

/-- A failed check consumes an attempt: before the last one the job begins again. -/
theorem State.checkFailed_of_left {s : State} {j : Job} (h : 1 < j.attempts) :
    s.checkFailed j = s.updateJob j.id fun _ => { j with attempts := j.attempts - 1, phase := .needErase } :=
  if_neg (show j.attempts - 1 ≠ 0 by omega)

/-- With the last attempt gone a job is reassigned, and a MAP WRITE ends FAILED. -/
theorem State.checkFailed_of_last {s : State} {j : Job} (h : j.attempts ≤ 1) :
    s.checkFailed j =
      if j.kind = .mapWrite then s.endJob j (.failed .uncorrectable)
      else (s.updateJob j.id fun _ => { j with attempts := 0 }).reassign j.id := by
  have last : j.attempts - 1 = 0 := by omega
  simp only [State.checkFailed, last, if_true]
  split
  · exact State.endJob_updateJob s { j with attempts := 0 } _ (fun _ _ => rfl) _
  · rfl

/-- Settles O44: the action that ends says what becomes of its job, and the outcome whether a check succeeds. -/
theorem sectorEndAppliesTheOutcome : Obligations.SectorEndAppliesTheOutcome := by
  intro o s hq hn
  have event : exec (.sectorEnd o) s = .next (s.sectorEnd o) := onEvent_of_quiet hq _
  rw [event]
  refine ⟨fun ho => ?_, fun act hh ho hj => ?_, ?_⟩
  · simp [State.sectorEnd, ho]
  · simp only [State.sectorEnd, hh, ho, hj]
    rfl
  intro act id j hh ho hact hj
  obtain ⟨-, rfl⟩ := State.job?_some hj
  intro closed with_ check
  rw [State.sectorEnd_eq hh ho hact hj o]
  have seq (j' : Job) (e : Ending) : (s.closed.endJob j' e).seq = closed.seq := State.endJob_seq rfl j' e
  have writes (hk : j.kind.writeType = true) (e : Ending) : s.closed.endWrite j e = s.closed.endJob j e :=
    (if_pos hk).symm
  have success (ha : check) (hs : s.CheckSucceeds act.action j o) :
      ∃ blank, s.closed.complete act.action j o = s.closed.endJob j (.done blank 0 none) :=
    State.complete_of_success (s := s.closed) ha hs
  have failure (ha : check) (hs : ¬s.CheckSucceeds act.action j o) :
      s.closed.complete act.action j o = s.closed.checkFailed j :=
    State.complete_of_failure (s := s.closed) ha hs
  refine ⟨fun ha => ?erased, fun ha => ?written, fun ha hs hl => ?again, fun ha hs hl hk => ?reassigned,
    fun f ha hk hf hlen hw => ⟨fun hs hl => ?mapFails, fun hs hi hown => ?mapDone⟩, fun ha hs hk hheld => ?writerDone,
    fun ha hu hl => ?readAgain, fun ha hu hl hk => ?readFails⟩
  case erased => rw [ha]; rfl
  case written => rw [ha]; rfl
  case again => rw [failure ha hs, State.checkFailed_of_left hl]; rfl
  case reassigned => rw [failure ha hs, State.checkFailed_of_last hl, if_neg hk]; rfl
  case mapFails =>
    rw [failure ha hs, State.checkFailed_of_last hl, if_pos hk]
    have ends := State.endWrite_map (s := s.closed) hn hk hf hlen hw (e := .failed .uncorrectable) (.inl ⟨_, rfl⟩)
    exact ⟨_, rfl, writes (by simp [hk, JobKind.writeType]) _ ▸ ends.of_closed, seq _ _⟩
  case mapDone =>
    obtain ⟨blank, eq⟩ := success ha hs
    rw [eq]
    have ends := State.endWrite_map (s := s.closed) hn hk hf hlen hw (e := .done blank 0 none)
      (.inr ⟨⟨_, _, _, rfl⟩, hi, hown⟩)
    exact ⟨_, rfl, writes (by simp [hk, JobKind.writeType]) _ ▸ ends.of_closed, seq _ _⟩
  case writerDone =>
    obtain ⟨blank, eq⟩ := success ha hs
    rw [eq]
    have ends := State.endWrite_done (s := s.closed) hn hk hheld blank 0 none
    exact ⟨_, rfl, writes (by rcases hk with hk | hk | hk <;> rw [hk] <;> rfl) _ ▸ ends.of_closed, seq _ _⟩
  case readAgain =>
    have left : j.attempts - 1 ≠ 0 := by omega
    rw [ha, hu]
    simp only [State.complete, State.completeRead, State.failedAttempt, left, false_and, or_self, if_false, Bool.false_eq_true]
    rfl
  case readFails =>
    have last : j.attempts - 1 = 0 := by omega
    rw [ha, hu]
    have eq : s.closed.complete .read j .uncorrectable = s.closed.endJob j (.failed .uncorrectable) := by
      simp only [State.complete, State.completeRead, State.failedAttempt, last, true_or, if_true]
      exact State.endJob_updateJob s.closed { j with attempts := 0 } _ (fun _ _ => rfl) _
    rw [eq]
    have ends := State.endRead_failed (s := s.closed) hn j .uncorrectable
    refine ⟨_, rfl, ?_, seq _ _⟩
    rw [State.endJob, if_neg (by simp [hk])]
    exact ends.of_closed

end Sys2Proof.Machine

/-! # Chapter 3: the flush takes its slots

The snapshot is written slot by slot; each claim met makes one MAP WRITE job; the image loads back as the table. -/

namespace Sys2Proof.Machine

/-! ### The images in the slots (R154) -/

theorem length_fieldBytes_image (m : MapSector) : (fieldBytes (.image m)).length = 1024 := by
  simp [fieldBytes]

/-- Map sectors written one after another into their slots. -/
def Memory.writeImages (images : List (MapSector × Slot)) (m : Memory) : Memory :=
  images.foldl (fun m p => m.writeSlot p.2 (fieldBytes (.image p.1))) m

theorem State.foldl_fillSlot (images : List (MapSector × Slot)) (s : State) :
    images.foldl (fun s p => s.fillSlot p.2 (fieldBytes (.image p.1))) s = s.withSram (s.sram.writeImages images) := by
  induction images generalizing s with
  | nil => rfl
  | cons p ps ih => exact ih _

theorem Memory.readSlot_writeImages_of_notMem {images : List (MapSector × Slot)} {slot : Slot}
    (h : slot ∉ images.map Prod.snd) (m : Memory) : (m.writeImages images).readSlot slot = m.readSlot slot := by
  induction images generalizing m with
  | nil => rfl
  | cons p ps ih =>
    simp only [List.map_cons, List.mem_cons, not_or] at h
    exact (ih h.2 _).trans (m.readSlot_writeSlot_ne h.1 _)

/-- Each slot holds the sector written into it, where no slot is written twice. -/
theorem Memory.readSlot_writeImages {images : List (MapSector × Slot)} (hn : (images.map Prod.snd).Nodup)
    {p : MapSector × Slot} (hp : p ∈ images) (m : Memory) :
    (m.writeImages images).readSlot p.2 = fieldBytes (.image p.1) := by
  induction images generalizing m with
  | nil => cases hp
  | cons q ps ih =>
    obtain ⟨hq, hps⟩ := List.nodup_cons.mp hn
    rcases List.mem_cons.mp hp with rfl | hp
    · exact (Memory.readSlot_writeImages_of_notMem hq _).trans (m.readSlot_writeSlot _ _ (length_fieldBytes_image _))
    · exact ih hps hp _

/-! ### The map image (R149) -/

theorem storedEntries_eq (entries : List Entry) : storedEntries entries = entries.filterMap Entry.stored :=
  congrArg (entries.filterMap ·) (funext fun e => by cases e <;> rfl)

theorem mapImage_length (entries : List Entry) (generation : BitVec 32) : (mapImage entries generation).length = 17 := by
  simp [mapImage, mapSectors]

theorem mapImage_getElem? (entries : List Entry) (generation : BitVec 32) {k : Nat} (hk : k < 17) :
    (mapImage entries generation)[k]? = some
      { number := k, generation := generation, count := min 126 ((storedEntries entries).length - 126 * k)
        entries := ((storedEntries entries).drop (126 * k)).take 126 } := by
  simp [mapImage, mapSectors, entriesPerSector, storedEntries_eq, hk]

/-- Consecutive parts of one length, put together again. -/
theorem flatMap_drop_take {α : Type} (l : List α) (c n : Nat) :
    ((List.range n).flatMap fun k => (l.drop (c * k)).take c) = l.take (c * n) := by
  induction n with
  | zero => simp
  | succ n ih => rw [List.range_succ, List.flatMap_append, ih, Nat.mul_succ, List.take_add]; simp

/-- The sectors of an image carry together all that is stored, where the table holds no more than it may. -/
theorem mapImage_flatMap_entries {entries : List Entry} (h : entries.length ≤ 2048) (generation : BitVec 32) :
    (mapImage entries generation).flatMap MapSector.entries = entries.filterMap Entry.stored := by
  have fits : (entries.filterMap Entry.stored).length ≤ 126 * 17 :=
    ((List.length_filterMap_le _ _).trans h).trans (by decide)
  rw [mapImage, List.flatMap_map]
  exact (flatMap_drop_take _ 126 17).trans (List.take_of_length_le fits)

/-- What is stored of a table stands for its entries that are not PENDING. -/
theorem map_toEntry_stored (entries : List Entry) :
    (entries.filterMap Entry.stored).map StoredEntry.toEntry = entries.filter fun e => !e.isPending := by
  induction entries with
  | nil => rfl
  | cons e es ih =>
    cases e with
    | pending => exact ih
    | active lsn spare => exact congrArg (Entry.active lsn spare :: ·) ih
    | retired spare => exact congrArg (Entry.retired spare :: ·) ih

/-! ### The image loads (R151) -/

theorem countsPacked_iff {l : List Nat} : countsPacked l = true ↔ l.Pairwise fun a b => a = 126 ∨ b = 0 := by
  induction l with
  | nil => simp [countsPacked]
  | cons c cs ih =>
    by_cases hc : c = 126 <;> simp [countsPacked, entriesPerSector, ih, hc]

theorem strictlyRising_iff {l : List Nat} : strictlyRising l = true ↔ l.Pairwise (· < ·) := by
  rw [← List.isChain_iff_pairwise]
  induction l with
  | nil => simp [strictlyRising]
  | cons a l ih =>
    cases l with
    | nil => simp [strictlyRising]
    | cons b l => simp [strictlyRising, ih, List.isChain_cons_cons]

theorem goodSectors_good (ms : List MapSector) : goodSectors (ms.map fun m => .good (some m)) = some ms := by
  induction ms with
  | nil => rfl
  | cons m ms ih => simp [goodSectors, ih]

theorem mapImage_mem {entries : List Entry} {generation : BitVec 32} {m : MapSector}
    (h : m ∈ mapImage entries generation) : m.generation = generation ∧ m.count ≤ 126 ∧ m.entries.length = m.count := by
  obtain ⟨k, -, rfl⟩ := List.mem_map.mp h
  exact ⟨rfl, List.length_take_le _ _, rfl⟩

theorem mapImage_head? (entries : List Entry) (generation : BitVec 32) :
    (mapImage entries generation).head?.map MapSector.generation = some generation := rfl

theorem mapImage_sum_count {entries : List Entry} (h : entries.length ≤ 2048) (generation : BitVec 32) :
    ((mapImage entries generation).map MapSector.count).sum ≤ 2048 := by
  have counts : (mapImage entries generation).map MapSector.count =
      (mapImage entries generation).map fun m => m.entries.length :=
    List.map_congr_left fun m hm => let ⟨_, _, hlength⟩ := mapImage_mem hm; hlength.symm
  rw [counts, ← List.length_flatMap, mapImage_flatMap_entries h]
  exact (List.length_filterMap_le _ _).trans h

/-- The image of a table in order, whose spares are spares and stand once, is valid. -/
theorem validImage_mapImage {entries : List Entry} (generation : BitVec 32) (hlen : entries.length ≤ 2048)
    (hrank : entries.Pairwise fun a b => a.rank < b.rank) (hspares : (entries.map Entry.spare).Nodup)
    (hentries : ∀ e ∈ entries, e.spare.cls = some .spare ∧ ∀ l ∈ e.lsn?, l < 464128) :
    validImage (mapImage entries generation) = true := by
  have kept : (entries.filter fun e => !e.isPending).Sublist entries := List.filter_sublist
  simp only [validImage, mapImage_flatMap_entries hlen, map_toEntry_stored, mapImage_head?, Bool.and_eq_true,
    decide_eq_true_eq, List.all_eq_true, countsPacked_iff, strictlyRising_iff]
  refine ⟨⟨⟨⟨⟨⟨⟨?numbers, ?generations⟩, ?counts⟩, ?packed⟩, ?sum⟩, ?entries⟩, ?ranks⟩, ?spares⟩
  case numbers => simp [mapImage, Function.comp_def]
  case generations => exact fun m hm => by simp [(mapImage_mem hm).1]
  case counts => exact fun m hm => (mapImage_mem hm).2
  case packed =>
    rw [mapImage, List.map_map, List.pairwise_map]
    refine List.pairwise_lt_range.imp fun {a b} hab => ?_
    simp only [Function.comp_apply, List.length_take, List.length_drop, entriesPerSector]
    omega
  case sum => exact mapImage_sum_count hlen generation
  case entries =>
    intro e he
    obtain ⟨hspare, hlsn⟩ := hentries e (kept.subset he)
    refine ⟨?_, hspare⟩
    cases hl : e.lsn? with
    | none => rfl
    | some l => exact decide_eq_true (hlsn l hl)
  case ranks => exact List.pairwise_map.mpr (hrank.sublist kept)
  case spares => exact (kept.map Entry.spare).nodup hspares

/-- A valid image, read GOOD throughout, is loaded. -/
theorem loadDecision_of_validImage {m : MapSector} {ms : List MapSector} (h : validImage (m :: ms) = true) :
    loadDecision ((m :: ms).map fun m => .good (some m)) =
      .loaded (((m :: ms).flatMap MapSector.entries).map StoredEntry.toEntry) m.generation := by
  rw [loadDecision, if_neg (by simp), goodSectors_good]
  simp only [h, if_true]
  rfl

theorem loadDecision_mapImage {entries : List Entry} {generation : BitVec 32} (hlen : entries.length ≤ 2048)
    (h : validImage (mapImage entries generation) = true) :
    loadDecision ((mapImage entries generation).map fun m => .good (some m)) =
      .loaded (entries.filter fun e => !e.isPending) generation := by
  rw [← map_toEntry_stored, ← mapImage_flatMap_entries hlen generation]
  have length := mapImage_length entries generation
  cases hi : mapImage entries generation with
  | nil => simp [hi] at length
  | cons m ms =>
    rw [loadDecision_of_validImage (hi ▸ h), (mapImage_mem (hi ▸ List.mem_cons_self)).1]

/-! ### The slots and the claims (R40, R154) -/

theorem State.flushFailed_iff {s : State} {f : FlushContext} (hf : s.remap.flush = some f) :
    s.flushFailed = true ↔ ∃ reason, .failed reason ∈ f.sectors := by
  simp only [State.flushFailed, hf, Option.any_some, FlushContext.anyFailed, List.any_eq_true]
  constructor
  · rintro ⟨x, hx, h⟩
    cases x with
    | failed reason => exact ⟨reason, hx⟩
    | noSlot | waiting | writing | done => cases h
  · rintro ⟨reason, h⟩
    exact ⟨_, h, rfl⟩

/-- A job without an LSN enters as it is, held behind none. -/
theorem State.createJob_jobs_of_no_lsn {s : State} {mk : JobId → Job} {id : JobId} (hid : freshId s.jobs [] = some id)
    (hl : (mk id).lsn = none) : (s.createJob [] mk).jobs = s.jobs ++ [mk id] := by
  simp [State.createJob, hid, hl]

theorem State.flushTakes_eq {s : State} (hi : s.sup.inhibit = []) :
    s.flushTakes = { s with
      sram := s.sram.writeImages ((mapImage s.remap.entries (s.remap.generation + 1)).zip (s.pool.take 17))
      pool := s.pool.drop 17
      remap := { s.remap with
        generation := s.remap.generation + 1
        flush := s.remap.flush.map fun f => { f with
          phase := .writing0to15, sectors := (s.pool.take 17).map .waiting, stale := false
          images := mapImage s.remap.entries (s.remap.generation + 1) } } } := by
  simp only [State.flushTakes, State.foldl_fillSlot]
  exact if_pos hi

/-- Settles O54: the slots taken are written one by one and none twice, each claim met enters one job, and the sectors of an
image carry together what the table stores. -/
theorem flushTakesSlotsAndCreatesItsJobs : Obligations.FlushTakesSlotsAndCreatesItsJobs := by
  refine ⟨?failed, ?takes, ?claim, ?image, ?loads⟩
  case failed =>
    intro s f hf hfailed
    have failed := (State.flushFailed_iff hf).mpr hfailed
    exact ⟨onStep_of_not_due (by simp [State.flushSlotsDue, failed]) _,
      onStep_of_not_due (by simp [State.mapClaimDue, failed]) _⟩
  case takes =>
    intro s f hf hp hlen hn hi hfailed
    have due : s.flushSlotsDue = true := by
      have := mt (State.flushFailed_iff hf).mp (by simpa using hfailed)
      simp [State.flushSlotsDue, State.flushWaits, hf, hp, this, mapSectors, hlen]
    have slots : ((mapImage s.remap.entries (s.remap.generation + 1)).zip (s.pool.take 17)).map Prod.snd =
        s.pool.take 17 := List.map_snd_zip (by simp [mapImage_length])
    refine ⟨_, (onStep_of_due due _).trans (congrArg _ (State.flushTakes_eq hi)), rfl, by rw [hf]; rfl,
      fun k slot hk hs => ?_, fun slot hs => ?_, rfl, rfl, rfl, rfl, rfl⟩
    · obtain ⟨m, hm⟩ : ∃ m, (mapImage s.remap.entries (s.remap.generation + 1))[k]? = some m :=
        ⟨_, mapImage_getElem? _ _ hk⟩
      refine ⟨m, hm, ?_, ?_⟩
      · rw [mapImage_getElem? _ _ hk] at hm
        rw [← Option.some.inj hm]
      · refine Memory.readSlot_writeImages (p := (m, slot)) (by rw [slots]; exact hn.sublist (List.take_sublist ..)) ?_ _
        exact List.mem_of_getElem? (List.getElem?_zip_eq_some.mpr ⟨hm, by rwa [List.getElem?_take_of_lt hk]⟩)
    · exact Memory.readSlot_writeImages_of_notMem (by rwa [slots]) _
  case claim =>
    intro s f k ks slot hf hc hk hlen hi hfailed hstream
    have failed := mt (State.flushFailed_iff hf).mp (by simpa using hfailed)
    have claim : s.mapClaim = some (k, slot) := by simp [State.mapClaim, hf, hc, hk]
    have due : s.mapClaimDue = true := by
      have noStream : s.streamClaim = false := by
        rcases hstream with h | h <;> simp [State.streamClaim, h]
      simp [State.mapClaimDue, claim, hi, noStream, failed, State.freeEntries, tableEntries, hlen]
    obtain ⟨id, hid⟩ := Option.isSome_iff_exists.mp (freshId_isSome hlen)
    refine ⟨_, newJob s.cfg .map .mapWrite none (mapPsa k) (some slot) true false none id, onStep_of_due due _, ?_,
      (freshId_some hid).1, rfl, rfl, rfl, rfl, rfl, rfl, rfl, rfl, ?_, by simp, by simp, by simp, by simp, by simp⟩
    · simp only [State.mapClaimMet, claim]
      exact State.createJob_jobs_of_no_lsn hid rfl
    · simp only [State.mapClaimMet, claim, State.createJob_frame]
      simp [State.updateFlush, hf]
  case image => exact fun entries generation => ⟨mapImage_length .., fun k hk => mapImage_getElem? _ _ hk⟩
  case loads =>
    exact fun entries generation hlen hrank hspares hentries =>
      loadDecision_mapImage hlen (validImage_mapImage generation hlen hrank hspares hentries)

end Sys2Proof.Machine

/-! # Chapter 3: reads that end DONE

A read that ends DONE delivers what its slot holds: to its request, to the ring, or to the load of the map. -/

namespace Sys2Proof.Machine

/-! ### The sector end of a read (R98, R100) -/

/-- How a job that reads ends, where the read is not UNCORRECTABLE. -/
def endingOf : ReadOutcome → Ending
  | .good c field => .done false c (fieldMapSector field)
  | .blank => .done true 0 none
  | .uncorrectable => .failed .uncorrectable

/-- The bytes a read delivers. -/
def readBytes : ReadOutcome → List Byte
  | .good _ field => fieldBytes field
  | .blank | .uncorrectable => zeroBytes

/-- The open action is over and its bytes stand in the slot. -/
def State.readInto (slot : Slot) (bytes : List Byte) (s : State) : State := s.closed.fillSlot slot bytes

@[simp] theorem State.readInto_frame (slot bytes) (s : State) :
    (s.readInto slot bytes).sup = s.sup ∧ (s.readInto slot bytes).cfg = s.cfg ∧
    (s.readInto slot bytes).requests = s.requests ∧ (s.readInto slot bytes).jobs = s.jobs ∧
    (s.readInto slot bytes).pool = s.pool ∧ (s.readInto slot bytes).sram = s.sram.writeSlot slot bytes ∧
    (s.readInto slot bytes).planner = s.planner ∧ (s.readInto slot bytes).seq = { s.seq with openAction := none } ∧
    (s.readInto slot bytes).magnet = s.magnet ∧ (s.readInto slot bytes).power = s.power ∧
    (s.readInto slot bytes).remap = s.remap ∧ (s.readInto slot bytes).stream = s.stream ∧
    (s.readInto slot bytes).link = s.link ∧ (s.readInto slot bytes).conditions = s.conditions ∧
    (s.readInto slot bytes).emitted = s.emitted ∧ (s.readInto slot bytes).pending = s.pending := by
  simp [State.readInto, State.closed, State.fillSlot]

theorem State.sectorEnd_read {s : State} {act : OpenAction} {j : Job} (hh : s.planner.head = .revolving)
    (ho : s.seq.openAction = some act) (ha : act.action = .read) (hact : act.job = some j.id) (hj : s.job? j.id = some j)
    (hk : j.kind.writeType = false) {o : ReadOutcome} (hgood : o ≠ .uncorrectable) :
    s.sectorEnd o = (match j.slot with
      | some slot => s.readInto slot (readBytes o)
      | none => s.closed).endRead j (endingOf o) := by
  have ends (u : State) (e : Ending) : u.endJob j e = u.endRead j e := if_neg (by simp [hk])
  rw [State.sectorEnd_eq hh ho hact hj, ha]
  cases o with
  | uncorrectable => exact absurd rfl hgood
  | good c field => cases hs : j.slot <;> simp only [State.complete, State.completeRead, hs, ends] <;> rfl
  | blank => cases hs : j.slot <;> simp only [State.complete, State.completeRead, hs, ends] <;> rfl

/-! ### A HOST READ that ends DONE (R51, R52, R59) -/

@[simp] theorem Request.doneJob_tag (blank reassigned : Bool) (r : Request) : (r.doneJob blank reassigned).tag = r.tag := rfl

@[simp] theorem State.withoutJob_request? (s : State) (id : JobId) (r : Remap) (tag : Nat) :
    (s.withoutJob id r).request? tag = s.request? tag := by
  simp [State.request?]

/-- A HOST READ that ends DONE, no refresh asked, composes its DATA IN, and its READ, which has data unsent, only counts it. -/
theorem State.endRead_host {s : State} {j : Job} {tag lsn : Nat} {slot : Slot} {r : Request} (hk : j.kind = .hostRead)
    (ho : j.owner = .tag tag) (hl : j.lsn = some lsn) (hs : j.slot = some slot) (hr : s.request? tag = some r)
    (hread : r.kind = .read) {blank : Bool} {c : Nat} (hc : blank = false → c ≤ s.cfg.rt) (content : Option MapSector) :
    s.endRead j (.done blank c content) =
      ((s.withoutJob j.id s.remap).compose (.dataIn tag lsn blank c slot (s.slotBytes slot))).updateRequest tag
        (Request.doneJob blank false) := by
  have delivered : (s.withoutJob j.id s.remap).deliver j (.done blank c content) =
      (s.withoutJob j.id s.remap).compose (.dataIn tag lsn blank c slot (s.slotBytes slot)) := by
    have bytes : (s.withoutJob j.id s.remap).slotBytes slot = s.slotBytes slot := by simp [State.slotBytes]
    cases blank with
    | true => simp [State.deliver, hk, ho, hl, hs, bytes]
    | false => simp [State.deliver, hk, ho, hl, hs, bytes, (hc rfl).not_gt]
  have counts : Request.countEnd j (.done blank c content) = Request.doneJob blank false := by
    simp [Request.countEnd_done_eq, hk, JobKind.writeType]
  rw [State.endRead_eq, delivered, State.ownerEnd_of_tag _ ho, counts]
  refine State.tryEndRequest_goesOn fun q hq => .inr (.inr ⟨?_, ?_⟩)
  · rw [State.updateRequest_request? _ (by simp), State.compose_request?, State.withoutJob_request?, hr] at hq
    obtain rfl := Option.some.inj hq
    exact hread
  · rw [State.unsentData_eq_true, State.updateRequest_link, State.compose_outbound]
    exact ⟨_, List.mem_concat_self, by simp [Record.isDataIn]⟩

theorem State.endRead_host_request? {s : State} {j : Job} {tag lsn : Nat} {slot : Slot} {r : Request} (hk : j.kind = .hostRead)
    (ho : j.owner = .tag tag) (hl : j.lsn = some lsn) (hs : j.slot = some slot) (hr : s.request? tag = some r)
    (hread : r.kind = .read) {blank : Bool} {c : Nat} (hc : blank = false → c ≤ s.cfg.rt) (content : Option MapSector) :
    (s.endRead j (.done blank c content)).request? tag = some (r.doneJob blank false) := by
  rw [State.endRead_host hk ho hl hs hr hread hc, State.updateRequest_request? _ (by simp),
    State.compose_request?, State.withoutJob_request?, hr]
  rfl

/-! ### A refresh is asked for (R53, R105) -/

/-- An excepted entry number counts as occupied. -/
theorem freshId_except (jobs : List Job) (j : Job) : freshId jobs [j.id] = freshId (jobs ++ [j]) [] := by
  refine congrArg (allJobIds.find? ·) (funext fun i => ?_)
  by_cases hi : j.id = i <;> simp [hi, Ne.symm]

/-- A job enters the young end of the table, checked for a hold where it has an LSN. -/
theorem State.createJob_enters {s : State} {except : List JobId} {mk : JobId → Job} {id : JobId}
    (hid : freshId s.jobs except = some id) (hb : (mk id).heldBehind = none) (hp : (mk id).phase = (mk id).firstPhase) :
    (s.createJob except mk).jobs =
      s.jobs ++ [enterTable s.jobs (((mk id).lsn.map s.effective).getD (mk id).target) (mk id)] := by
  simp only [State.createJob, hid, State.withJobs_jobs]
  cases hl : (mk id).lsn with
  | none =>
    have unheld : holder s.jobs (mk id) = none := holder_eq_none fun o _ => by simp [Job.holds, hl]
    simp only [enterTable, unheld, Option.isSome_none, Bool.false_eq_true, if_false, ← hp, Option.map_none,
      Option.getD_none]
    rw [← hb]
  | some l => cases hh : holder s.jobs (mk id) <;> simp [enterTable, hh, hl, Job.release]

theorem State.length_jobsWithout {s : State} (hn : (s.jobs.map Job.id).Nodup) {j : Job} (hj : j ∈ s.jobs) :
    (s.jobsWithout j.id).length + 1 = s.jobs.length := by
  have left : (s.jobsWithout j.id).map Job.id = (s.jobs.map Job.id).erase j.id := by
    rw [hn.erase_eq_filter, List.filter_map, State.jobsWithout]
    simp [Function.comp_def, id_bne]
  have length := congrArg List.length left
  rw [List.length_erase_of_mem (List.mem_map_of_mem hj), List.length_map, List.length_map] at length
  have := List.length_pos_of_mem hj
  omega

/-- The four conditions for a refresh of a reading job that is still in the table (R53). -/
def State.grantsRefresh (s : State) (j : Job) : Prop :=
  0 < s.available ∧ s.jobs.length < 256 ∧ s.claimWaits = false ∧ s.sup.inhibit = [] ∧
    ∀ o ∈ s.jobs, o.lsn = j.lsn → o.kind.writeType = false

theorem State.withoutJob_grants {s : State} (hn : (s.jobs.map Job.id).Nodup) {j : Job} (hj : j ∈ s.jobs)
    (hk : j.kind.writeType = false) :
    let w := s.withoutJob j.id s.remap
    (0 < w.available ∧ w.jobs.length + 1 < tableEntries ∧ w.claimWaits = false ∧ w.sup.inhibit = [] ∧
      w.jobs.any (fun o => decide (o.lsn = j.lsn) && o.kind.writeType) = false) ↔ s.grantsRefresh j := by
  intro w
  have pool : w.pool = s.pool := by simp [w]
  have available : w.available = s.available := by
    have waits : w.flushWaits = s.flushWaits := by simp [w, State.flushWaits]
    rw [State.available, waits, State.available, pool]
  have sup : w.sup = s.sup := by simp [w]
  have claims : w.claimWaits = s.claimWaits := by simp [w, State.claimWaits, State.streamClaim]
  have lasting : w.jobs.map Job.lasting = (s.jobsWithout j.id).map Job.lasting := s.withoutJob_lasting j.id s.remap
  have length : w.jobs.length + 1 = s.jobs.length := by
    rw [← State.length_jobsWithout hn hj]
    simpa using congrArg List.length lasting
  have writers : w.jobs.any (fun o => decide (o.lsn = j.lsn) && o.kind.writeType) = false ↔
      ∀ o ∈ s.jobs, o.lsn = j.lsn → o.kind.writeType = false := by
    have same : w.jobs.any (fun o => decide (o.lsn = j.lsn) && o.kind.writeType) =
        (s.jobsWithout j.id).any fun o => decide (o.lsn = j.lsn) && o.kind.writeType := by
      have := congrArg (List.any · fun o : Job => decide (o.lsn = j.lsn) && o.kind.writeType) lasting
      rwa [List.any_map, List.any_map] at this
    rw [same, List.any_eq_false]
    simp only [Bool.and_eq_true, decide_eq_true_eq, not_and, Bool.not_eq_true, State.jobsWithout, List.mem_filter,
      and_imp]
    refine ⟨fun h o ho hl => ?_, fun h o ho _ => h o ho⟩
    by_cases hid : o.id = j.id
    · rwa [List.inj_on_of_nodup_map hn ho hj hid]
    · exact h o ho hid hl
  rw [available, claims, length, writers, sup]
  rfl

theorem State.slotBytes_length (s : State) (slot : Slot) : (s.slotBytes slot).length = 1024 := by
  simp [State.slotBytes, Memory.readSlot]

/-- The refresh of a reading job under a given entry number, before its hold check. -/
def State.refreshOf (s : State) (j : Job) (slot : Slot) (id : JobId) : Job :=
  newJob s.cfg .refresh .refresh j.lsn j.target (some slot) true false none id

/-- Where the conditions hold, a copy of the job's bytes stands in the slot longest in the pool, and the refresh enters. -/
theorem State.askRefresh_of_granted {s : State} (hn : (s.jobs.map Job.id).Nodup) {j : Job} (hj : j ∈ s.jobs)
    (hk : j.kind.writeType = false) {src : Slot} (hs : j.slot = some src) (h : s.grantsRefresh j) :
    ∃ slot rest, s.pool = slot :: rest ∧ (s.withoutJob j.id s.remap).askRefresh j =
      (((s.withoutJob j.id s.remap).withPool rest).fillSlot slot (s.slotBytes src)).createJob [j.id] (s.refreshOf j slot) := by
  have pool : (s.withoutJob j.id s.remap).pool = s.pool := by simp
  cases hp : s.pool with
  | nil =>
    have := h.1
    simp [State.available, hp] at this
  | cons slot rest =>
    refine ⟨slot, rest, rfl, ?_⟩
    simp only [State.askRefresh, pool.trans hp]
    rw [if_pos ((State.withoutJob_grants hn hj hk).mpr h), hs]
    simp only [State.slotBytes, State.fillSlot, State.withSram_cfg, State.withPool_cfg, State.withPool_sram,
      State.withoutJob_frame, Option.map_some, Option.getD_some]
    rfl

theorem State.askRefresh_of_not_granted {s : State} (hn : (s.jobs.map Job.id).Nodup) {j : Job} (hj : j ∈ s.jobs)
    (hk : j.kind.writeType = false) (h : ¬s.grantsRefresh j) :
    (s.withoutJob j.id s.remap).askRefresh j = (s.withoutJob j.id s.remap).raise .refreshDropped := by
  unfold State.askRefresh
  split
  · exact if_neg (mt (State.withoutJob_grants hn hj hk).mp h)
  · rfl

/-- The bytes of a reading job stand in its slot after it has asked for its refresh. -/
theorem State.askRefresh_slotBytes {s : State} (hn : (s.jobs.map Job.id).Nodup) {j : Job} (hj : j ∈ s.jobs)
    (hk : j.kind.writeType = false) {src : Slot} (hs : j.slot = some src) :
    ((s.withoutJob j.id s.remap).askRefresh j).sram.readSlot src = s.slotBytes src := by
  by_cases h : s.grantsRefresh j
  · obtain ⟨slot, rest, -, eq⟩ := State.askRefresh_of_granted hn hj hk hs h
    rw [eq]
    simp only [State.createJob_frame, State.fillSlot, State.withSram_sram, State.withPool_sram, State.withoutJob_frame]
    by_cases hsrc : src = slot
    · rw [hsrc, Memory.readSlot_writeSlot _ _ _ (s.slotBytes_length slot)]
    · exact Memory.readSlot_writeSlot_ne _ hsrc _
  · rw [State.askRefresh_of_not_granted hn hj hk h]
    simp [State.slotBytes]

theorem State.askRefresh_asksRefresh {s t : State} (hn : (s.jobs.map Job.id).Nodup) {j : Job} (hj : j ∈ s.jobs)
    (hk : j.kind.writeType = false) {src : Slot} (hs : j.slot = some src)
    (jobs : t.jobs = ((s.withoutJob j.id s.remap).askRefresh j).jobs)
    (pool : t.pool = ((s.withoutJob j.id s.remap).askRefresh j).pool)
    (sram : t.sram = ((s.withoutJob j.id s.remap).askRefresh j).sram)
    (conditions : t.conditions = ((s.withoutJob j.id s.remap).askRefresh j).conditions) :
    AsksRefresh s t j (s.slotBytes src) := by
  have ids : (s.withoutJob j.id s.remap).jobs.map Job.id = (s.jobs.filter fun o => decide (o.id ≠ j.id)).map Job.id :=
    ids_of_lasting (s.withoutJob_lasting j.id s.remap)
  constructor
  case created =>
    intro ha hl hc hi hw
    obtain ⟨slot, rest, hpool, eq⟩ := State.askRefresh_of_granted hn hj hk hs ⟨ha, hl, hc, hi, hw⟩
    have room : ((s.withoutJob j.id s.remap).jobs ++ [j]).length < 256 := by
      have length := State.length_jobsWithout hn hj
      have ids := congrArg List.length ids
      simp only [List.length_map] at ids
      simp only [List.length_append, List.length_singleton, ids]
      exact length ▸ hl
    obtain ⟨id, hid⟩ := Option.isSome_iff_exists.mp (freshId_isSome room)
    rw [← freshId_except] at hid
    obtain ⟨fresh, notOld⟩ := freshId_some hid
    have entered := State.createJob_enters
      (s := ((s.withoutJob j.id s.remap).withPool rest).fillSlot slot (s.slotBytes src)) (mk := s.refreshOf j slot) hid rfl rfl
    rw [eq] at jobs pool sram conditions
    refine ⟨_, _, slot, jobs.trans entered, ids, ?_, rfl, rfl, rfl, rfl, rfl, rfl, rfl,
      fun h => notOld (List.mem_singleton.mpr h), fresh, rfl,
      rfl, fun l hlsn => ?_, ?_, ?_⟩
    · rw [hpool, pool]
      simp [State.fillSlot]
    · have target : (j.lsn.map (State.effective (((s.withoutJob j.id s.remap).withPool rest).fillSlot slot
          (s.slotBytes src)))).getD j.target = s.effective l := by simp [hlsn, State.effective, State.fillSlot]
      exact target
    · rw [sram]
      simp only [State.createJob_frame]
      exact Memory.readSlot_writeSlot _ _ _ (s.slotBytes_length src)
    · rw [conditions]
      simp [State.fillSlot]
  case dropped =>
    intro h
    have refused : ¬s.grantsRefresh j := fun ⟨ha, hl, hc, hi, hw⟩ => by
      rcases h with h | h | h | h | ⟨o, ho, hlsn, hwrites⟩
      · omega
      · omega
      · simp [hc] at h
      · exact h hi
      · simp [hw o ho hlsn] at hwrites
    rw [State.askRefresh_of_not_granted hn hj hk refused] at jobs pool sram conditions
    refine ⟨?_, ?_, ?_⟩
    · rw [jobs, ← ids]
      simp
    · simp [pool]
    · rw [conditions, State.raise_conditions, State.raise_conditions]
      simp

theorem State.ownerEnd_done_conditions (s : State) (j : Job) (blank c content) :
    (s.ownerEnd j (.done blank c content)).conditions = s.conditions := by
  cases ho : j.owner with
  | tag => simp [State.ownerEnd_of_tag s ho]
  | stream | map | refresh => simp [State.ownerEnd, ho]

theorem State.streamEnd_done_frame (s : State) (j : Job) (blank c content) :
    (s.streamEnd j (.done blank c content)).sram = s.sram ∧
      (s.streamEnd j (.done blank c content)).conditions = s.conditions := by
  unfold State.streamEnd
  split
  · dsimp only
    split <;> simp [State.slotFill]
  · exact ⟨rfl, rfl⟩

/-- A page is present, so that the ring is kept. -/
def State.pagePresent (s : State) : Prop := s.stream.active ≠ none ∨ s.stream.pendingPage ≠ none

theorem State.streamEnd_done_pool {s : State} (h : s.pagePresent) (j : Job) (blank c content) :
    (s.streamEnd j (.done blank c content)).pool = s.pool := by
  have kept (u : State) (ha : u.stream.active = s.stream.active) (hp : u.stream.pendingPage = s.stream.pendingPage) :
      u.releaseRing = u := State.releaseRing_of_held fun ⟨_, hna, hnp, _⟩ => by
    rw [State.pagePresent, ← ha, ← hp, hna, hnp] at h
    simp at h
  unfold State.streamEnd
  split
  · dsimp only
    split
    · rw [kept (s.ringReturn [_]) rfl rfl]
      rfl
    · rw [kept (s.slotFill _ _ _) rfl rfl]
      rfl
  · rfl

/-- What a reading job asks for at its delivery is all that its end does to the table, the pool, the SRAM and the
conditions. -/
theorem State.endRead_asks {s : State} {j : Job} (hk : j.kind = .hostRead ∨ (j.kind = .streamRead ∧ s.pagePresent))
    {c : Nat} (hc : s.cfg.rt < c) (content : Option MapSector) :
    let t := s.endRead j (.done false c content)
    let asked := (s.withoutJob j.id s.remap).askRefresh j
    t.jobs = asked.jobs ∧ t.pool = asked.pool ∧ t.sram = asked.sram ∧ t.conditions = asked.conditions ∧
      t.remap = s.remap := by
  intro t asked
  have eq : t = (s.withoutJob j.id s.remap |>.deliver j (.done false c content)).ownerEnd j (.done false c content) := rfl
  have remap : asked.remap = s.remap := by simp [asked]
  rw [eq, State.ownerEnd_done_conditions]
  rcases hk with hk | ⟨hk, hp⟩
  · have delivered : (s.withoutJob j.id s.remap).deliver j (.done false c content) = asked ∨
        ∃ r, (s.withoutJob j.id s.remap).deliver j (.done false c content) = asked.compose r := by
      simp only [State.deliver, State.withoutJob_frame, hk, hc, ne_eq, reduceCtorEq, not_false_eq_true, and_self, if_true]
      repeat' split
      · exact .inr ⟨_, rfl⟩
      · exact .inl rfl
    rcases delivered with h | ⟨r, h⟩ <;> simp [h, remap]
  · have delivered : (s.withoutJob j.id s.remap).deliver j (.done false c content) =
        asked.streamEnd j (.done false c content) := by
      simp [State.deliver, hk, hc, asked]
    have present : asked.pagePresent := by simpa [State.pagePresent, asked] using hp
    rw [delivered]
    simp [State.streamEnd_done_pool present, State.streamEnd_done_frame, remap]

/-! ### The read-after-write copy (R48) -/

theorem State.tryEndRequest_cases (s : State) (tag : Nat) : s.tryEndRequest tag = s ∨
    ∃ r : Request, s.tryEndRequest tag =
      (s.updateRequest tag fun q => { q with state := .ended }).compose (r.doneRecord none) := by
  unfold State.tryEndRequest State.endRequest
  repeat' split
  · exact .inr ⟨_, rfl⟩
  all_goals exact .inl rfl

theorem State.ownerEnd_done_request?_ne (s : State) {j : Job} {tag : Nat} (h : j.owner ≠ .tag tag) (blank c content) :
    (s.ownerEnd j (.done blank c content)).request? tag = s.request? tag := by
  cases ho : j.owner with
  | tag t =>
    have hne : tag ≠ t := fun he => h (he ▸ ho)
    have counted := s.updateRequest_request?_ne (f := Request.countEnd j (.done blank c content)) (by simp) hne
    rw [State.ownerEnd_of_tag s ho]
    rcases (s.updateRequest t (Request.countEnd j (.done blank c content))).tryEndRequest_cases t with eq | ⟨r, eq⟩
    · rw [eq, counted]
    · rw [eq, State.compose_request?, State.updateRequest_request?_ne _ (by simp) hne, counted]
  | stream | map | refresh => simp [State.ownerEnd, ho]

theorem State.ownerEnd_done_outbound (s : State) (j : Job) (tag : Nat) (blank c content) :
    ∃ rest, (s.ownerEnd j (.done blank c content)).link.outbound = s.link.outbound ++ rest ∧
      ∀ x ∈ rest, x.isDataIn tag = false := by
  have nothing : ∃ rest, s.link.outbound = s.link.outbound ++ rest ∧ ∀ x ∈ rest, x.isDataIn tag = false := ⟨[], by simp⟩
  cases ho : j.owner with
  | tag t =>
    rw [State.ownerEnd_of_tag s ho]
    rcases (s.updateRequest t (Request.countEnd j (.done blank c content))).tryEndRequest_cases t with eq | ⟨r, eq⟩
    · rwa [eq]
    · exact ⟨_, eq ▸ State.compose_outbound _ _, by simp [Request.doneRecord, Record.isDataIn]⟩
  | stream | map | refresh => simp [State.ownerEnd, ho]

/-- The one job held behind a HOST WRITE or REFRESH that ends DONE, a HOST READ, takes the writer's bytes and ends with it. -/
theorem State.endWrite_copies {s : State} (hn : (s.jobs.map Job.id).Nodup) {j h : Job} {src dst : Slot}
    (hk : j.kind = .hostWrite ∨ j.kind = .refresh) (hs : j.slot = some src) (hd : h.slot = some dst)
    (hh : (s.jobs.filter fun k => decide (k.heldBehind = some j.id)) = [h]) (hread : h.kind = .hostRead) (hne : h.id ≠ j.id)
    (blank c content) :
    ∃ (target : Psa) (u : State), s.endWrite j (.done blank c content) =
        ((u.endRead (h.release target) (.done false 0 none)).returnSlot (some src)).ownerEnd j (.done blank c content) ∧
      u.jobs.map Job.id = (s.jobsWithout j.id).map Job.id ∧ u.sram = s.sram.writeSlot dst (s.sram.readSlot src) ∧
      u.requests = s.requests ∧ u.pool = s.pool ∧ u.link = s.link ∧ u.remap = s.remap.activateOwned j.id := by
  generalize hv : (s.leaveTable j.id).withRemap (s.remap.activateOwned j.id) = v
  have jobs : v.jobs = s.jobsWithout j.id := by
    rw [← hv]
    simp only [State.leaveTable, State.withRemap_jobs, State.withSeq_jobs, State.withPlanner_jobs, State.withJobs_jobs,
      State.jobsWithout, id_bne]
  have hmem : h ∈ v.jobs := by
    rw [jobs]
    have : h ∈ s.jobs.filter fun k => decide (k.heldBehind = some j.id) := hh ▸ List.mem_singleton_self h
    exact List.mem_filter.mpr ⟨List.mem_of_mem_filter this, by simpa using hne⟩
  have held : v.heldBehind j.id = [h.id] := by
    rw [State.heldBehind, jobs, State.jobsWithout, List.filter_comm, hh]
    simp [hne]
  have found : v.job? h.id = some h := State.job?_of_mem (jobs ▸ State.jobsWithout_ids_nodup hn j.id) hmem
  refine ⟨(h.lsn.map v.effective).getD h.target,
    (v.updateJob h.id fun _ => h.release ((h.lsn.map v.effective).getD h.target)).fillSlot dst (v.slotBytes src),
    ?_, ?_, ?_⟩
  · have copies : copiesToReads j (.done blank c content) = true := by rcases hk with hk | hk <;> simp [copiesToReads, hk]
    have serve : v.serveHeld j true h.id = v.copyFrom j h := by
      simp [State.serveHeld, found, hread, JobKind.writeType]
    have notMap : j.kind ≠ .mapWrite := by rcases hk with hk | hk <;> simp [hk]
    rw [State.endWrite]
    simp only [hv, State.leaveTable_frame, held, copies, List.foldl_cons, List.foldl_nil, serve, if_neg notMap, hs]
    simp only [State.copyFrom, hs, hd]
    rfl
  · rw [← jobs]
    simp only [State.fillSlot, State.withSram_jobs, State.updateJob, State.withJobs_jobs, List.map_map]
    refine List.map_congr_left fun o _ => ?_
    by_cases ho : o.id = h.id <;> simp [ho, Job.release]
  · simp [State.fillSlot, ← hv, State.slotBytes]

/-! ### The statement -/

theorem LeavesTable.of_readInto {s t : State} {j : Job} {slot : Slot} {bytes : List Byte}
    (h : LeavesTable (s.readInto slot bytes) t j) : LeavesTable s t j := h.congr rfl rfl

theorem AsksRefresh.of_readInto {s t : State} {j : Job} {slot : Slot} {bytes b : List Byte}
    (h : AsksRefresh (s.readInto slot bytes) t j b) : AsksRefresh s t j b where
  created := h.created
  dropped := by
    have raised : ((s.readInto slot bytes).raise .refreshDropped).conditions = (s.raise .refreshDropped).conditions := by
      rw [State.raise_conditions, State.raise_conditions]
      rfl
    exact raised ▸ h.dropped

theorem length_zeroBytes : zeroBytes.length = 1024 := List.length_replicate

theorem State.readInto_slotBytes {s : State} {slot : Slot} {bytes : List Byte} (h : bytes.length = 1024) :
    (s.readInto slot bytes).slotBytes slot = bytes := s.sram.readSlot_writeSlot slot bytes h

/-- Settles O45: the sector end of a read fills the slot and ends the job, which delivers what the slot holds; the copy fills the
slot of the read held behind and ends it the same way. -/
theorem hostReadDeliversItsData : Obligations.HostReadDeliversItsData := by
  refine ⟨?good, fun s act id j hq hn hh ho ha hact hj => ⟨?blank, ?refresh, ?stream, ?map⟩, ?copy⟩
  case good =>
    intro s act id j tag lsn c slot bytes r hq hn hh ho ha hact hj hk howner hl hs hc hlen hr hread
    obtain ⟨hmem, rfl⟩ := State.job?_some hj
    have ends := State.sectorEnd_read hh ho ha hact hj (by simp [hk, JobKind.writeType]) (o := .good c (.user bytes))
      (by simp)
    simp only [hs, readBytes, endingOf, fieldBytes, fieldMapSector] at ends
    have host := State.endRead_host (s := s.readInto slot bytes) hk howner hl hs hr hread (blank := false) (c := c)
      (fun _ => hc) none
    have seq := State.endRead_seq (s := s.readInto slot bytes) rfl j (.done false c none)
    have counted := State.endRead_host_request? (s := s.readInto slot bytes) hk howner hl hs hr hread (blank := false)
      (c := c) (fun _ => hc) none
    refine ⟨_, onEvent_of_quiet hq _, ?_⟩
    rw [ends]
    refine ⟨?_, ?_, ?_, ?_, counted, seq.trans (by simp), ?_⟩
    · rw [host]
      simp [State.compose_outbound, State.readInto_slotBytes hlen]
    · rw [host]
      simp [ids_of_lasting (State.withoutJob_lasting _ _ _), State.jobsWithout, id_bne]
    all_goals rw [host]
    all_goals simp
  case blank =>
    intro tag lsn slot r hk howner hl hs hr hread
    obtain ⟨hmem, rfl⟩ := State.job?_some hj
    have ends := State.sectorEnd_read hh ho ha hact hj (by simp [hk, JobKind.writeType]) (o := .blank) (by simp)
    simp only [hs, readBytes, endingOf] at ends
    have host := State.endRead_host (s := s.readInto slot zeroBytes) hk howner hl hs hr hread (blank := true) (c := 0)
      (by simp) none
    have counted := State.endRead_host_request? (s := s.readInto slot zeroBytes) hk howner hl hs hr hread (blank := true)
      (c := 0) (by simp) none
    rw [State.readInto_slotBytes length_zeroBytes] at host
    have zeros : List.replicate 1024 (0 : Byte) = zeroBytes := rfl
    rw [zeros]
    refine ⟨_, onEvent_of_quiet hq _, ?_⟩
    rw [ends]
    refine ⟨(State.withoutJob_leavesTable (s := s.readInto slot zeroBytes) hn (r := s.remap) ?_ ?_ ?_).of_readInto,
      ?_, ?_, ?_, counted, ?_⟩
    all_goals rw [host]
    all_goals simp [State.compose_outbound]
  case refresh =>
    intro slot c field hs hlen hc hkind
    obtain ⟨hmem, rfl⟩ := State.job?_some hj
    have hk : j.kind = .hostRead ∨ (j.kind = .streamRead ∧ s.pagePresent) := by
      refine hkind.imp id fun ⟨hk, _, place, sector, _, hpage⟩ => ⟨hk, ?_⟩
      rcases hpage with hpage | ⟨-, hpage⟩
      · cases place with
        | active => exact .inl (Option.isSome_iff_ne_none.mp hpage)
        | pending => exact .inr (Option.isSome_iff_ne_none.mp hpage)
        | orphan => cases hpage
      · exact hpage
    have reads : j.kind.writeType = false := by rcases hk with hk | ⟨hk, -⟩ <;> simp [hk, JobKind.writeType]
    have ends := State.sectorEnd_read hh ho ha hact hj reads (o := .good c field) (by simp)
    simp only [hs, readBytes, endingOf] at ends
    obtain ⟨jobs, pool, sram, conditions, remap⟩ :=
      State.endRead_asks (s := s.readInto slot (fieldBytes field)) hk hc (fieldMapSector field)
    refine ⟨_, onEvent_of_quiet hq _, ?_⟩
    rw [ends]
    have asks := State.askRefresh_asksRefresh (s := s.readInto slot (fieldBytes field)) hn hmem reads hs jobs pool sram
      conditions
    rw [State.readInto_slotBytes hlen] at asks
    refine ⟨asks.of_readInto, ?_, remap⟩
    rw [sram, State.askRefresh_slotBytes (s := s.readInto slot (fieldBytes field)) hn hmem reads hs,
      State.readInto_slotBytes hlen]
  case map =>
    intro o result hk howner hs hresult
    obtain ⟨hmem, rfl⟩ := State.job?_some hj
    have good : o ≠ .uncorrectable ∧ loadResultOf (endingOf o) = result := by
      rcases hresult with ⟨c, field, rfl, rfl⟩ | ⟨rfl, rfl⟩ <;> exact ⟨by simp, rfl⟩
    have ends := State.sectorEnd_read hh ho ha hact hj (by simp [hk, JobKind.writeType]) good.1
    simp only [hs] at ends
    have eq := State.endRead_of_map s.closed hk howner (endingOf o)
    rw [good.2] at eq
    refine ⟨_, onEvent_of_quiet hq _, ?_⟩
    rw [ends]
    refine ⟨(State.withoutJob_leavesTable (s := s.closed) hn (r := s.closed.remap) ?_ ?_ ?_).of_closed, ?_⟩
    all_goals rw [eq]
    all_goals simp [State.recordLoad, State.closed]
  case stream =>
    intro place sector slot o bytes hk howner hp hs hread
    obtain ⟨hmem, rfl⟩ := State.job?_some hj
    obtain ⟨hgood, rfl, blank, c, content, hend, hc⟩ : o ≠ .uncorrectable ∧ bytes = readBytes o ∧
        ∃ blank c content, endingOf o = .done blank c content ∧ c ≤ s.cfg.rt := by
      rcases hread with ⟨c, field, rfl, hc, rfl⟩ | ⟨rfl, rfl⟩
      · exact ⟨by simp, rfl, _, _, _, rfl, hc⟩
      · exact ⟨by simp, rfl, _, _, _, rfl, Nat.zero_le _⟩
    have ends := State.sectorEnd_read hh ho ha hact hj (by simp [hk, JobKind.writeType]) hgood
    simp only [hs, hend] at ends
    have eq := State.endRead_of_stream (s.readInto slot (readBytes o)) hk howner (e := .done blank c content)
      (by rintro _ _ ⟨⟩; exact hc)
    refine ⟨_, onEvent_of_quiet hq _, ?_⟩
    rw [ends]
    have left := State.withoutJob_leavesTable (s := s.readInto slot (readBytes o)) hn (j := j) (r := s.remap)
      (t := (s.readInto slot (readBytes o)).endRead j (.done blank c content)) (by rw [eq]; simp) (by rw [eq]; simp)
      (by rw [eq]; simp)
    refine ⟨left.of_readInto, ?_, fun hpage => ?_, fun horphan hring => ?_, ?_⟩
    · rw [eq]
      simp [State.streamEnd_done_frame]
    · rw [eq, State.streamEnd_done _ hp hs (by simpa using hpage)]
      simp [State.slotFill, Stream.waiting]
    · have held : ¬(((s.readInto slot (readBytes o)).withoutJob j.id (s.readInto slot (readBytes o)).remap).ringReturn
          [slot]).ringIdle := by
        rw [eq] at hring
        rintro ⟨-, ha, hp, hj⟩
        rcases hring with h | h | ⟨k, hk, hstream⟩
        · exact h (by simpa [State.ringReturn] using ha)
        · exact h (by simpa [State.ringReturn] using hp)
        · exact absurd (List.any_eq_true.mpr ⟨k, by simpa using hk, hstream⟩) (by simpa using hj)
      rw [eq, State.streamEnd_orphan _ (horphan ▸ hp) hs, State.releaseRing_of_held held]
      simp [State.ringReturn]
    · rw [eq]
      simp [State.streamEnd_done_frame]
  case copy =>
    intro s act id j h o src dst tag lsn r hq hn hh ho ha hact hj hk hcheck hs hheld hread hne hd howner hown hl hr hrk
    obtain ⟨hmem, rfl⟩ := State.job?_some hj
    obtain ⟨blank, done⟩ := State.complete_of_success (s := s.closed) (.inl ha) (j := j) (o := o) (by rw [ha]; exact hcheck)
    obtain ⟨target, u, eq, jobs, sram, requests, pool, link, remap⟩ :=
      State.endWrite_copies (s := s.closed) hn hk hs hd hheld hread hne blank 0 none
    have writes : j.kind.writeType = true := by rcases hk with hk | hk <;> simp [hk, JobKind.writeType]
    have ends : s.sectorEnd o = _ := (State.sectorEnd_eq hh ho hact hj o).trans (done.trans ((if_pos writes).trans eq))
    have hr' : u.request? tag = some r := by rw [State.request?, requests]; exact hr
    have host := State.endRead_host (j := h.release target) hread howner hl hd hr' hrk (blank := false)
      (fun _ => Nat.zero_le _) none
    have copied : u.slotBytes dst = s.sram.readSlot src := by
      rw [State.slotBytes, sram]
      exact Memory.readSlot_writeSlot _ _ _ (s.slotBytes_length src)
    rw [copied] at host
    refine ⟨_, onEvent_of_quiet hq _, ?_⟩
    rw [ends]
    refine ⟨?jobs, ?sram, ?pool, ?request, ?remap, ?outbound⟩
    case jobs =>
      have left : (u.jobsWithout h.id).map Job.id = ((s.jobsWithout j.id).map Job.id).filter fun i => decide (i ≠ h.id) := by
        rw [State.jobsWithout, ← Function.comp_def (fun i => decide (i ≠ h.id)), ← List.filter_map, jobs]
        rfl
      simp only [State.ownerEnd_frame, State.returnSlot_frame, host, State.updateRequest_frame, State.compose_frame]
      rw [ids_of_lasting (State.withoutJob_lasting _ _ _)]
      refine left.trans ?_
      rw [List.filter_map, State.jobsWithout, List.filter_filter]
      simp [Bool.and_comm]
    case sram => simp [host, sram, State.closed]
    case pool => simp [host, pool, State.closed]
    case request =>
      rw [State.ownerEnd_done_request?_ne _ hown]
      exact State.endRead_host_request? (j := h.release target) hread howner hl hd hr' hrk (fun _ => Nat.zero_le _) none
    case remap => simp [host, remap, State.closed]
    case outbound =>
      obtain ⟨rest, houtbound, hrest⟩ := State.ownerEnd_done_outbound
        ((u.endRead (h.release target) (.done false 0 none)).returnSlot (some src)) j tag blank 0 none
      refine ⟨rest, ?_, hrest⟩
      rw [houtbound, host]
      simp [State.compose_outbound, link, State.closed]

end Sys2Proof.Machine

/-! # Chapter 3: frames

A command is written as bytes and read back; an outbound record is laid out byte by byte with odd parity. -/

namespace Sys2Proof.Machine

/-! ### Fields read back (R198) -/

theorem toNat_byteOf (n power : Nat) : (byteOf n power).toNat = n / 256 ^ power % 256 := by
  simp [byteOf]

theorem toNat_byteOf_zero {n : Nat} (h : n < 256) : (byteOf n 0).toNat = n := by
  simp [toNat_byteOf, Nat.mod_eq_of_lt h]

theorem be2_byteOf {n : Nat} (h : n < 65536) : be2 (byteOf n 1) (byteOf n 0) = n := by
  simp only [be2, toNat_byteOf]
  omega

theorem be3_byteOf {n : Nat} (h : n < 16777216) : be3 (byteOf n 2) (byteOf n 1) (byteOf n 0) = n := by
  simp only [be3, toNat_byteOf]
  omega

theorem toS16_be2_byteOf {i : Int} (hl : -32768 ≤ i) (hu : i ≤ 32767) :
    toS16 (be2 (byteOf (ofS16 i) 1) (byteOf (ofS16 i) 0)) = i := by
  have fits : ofS16 i < 65536 := by
    unfold ofS16
    omega
  rw [be2_byteOf fits, toS16, ofS16]
  split <;> omega

/-! ### Commands read back (R184, R185, R200) -/

/-- A frame whose payload has the length of its kind is read as its payload is. -/
theorem decodeFrame_of_length {kind tag : Nat} {payload : List Byte} (hkind : kind < 256) (htag : tag < 256)
    (hlen : payload.length < 65536) (hl : payloadLength kind = some payload.length) :
    decodeFrame (put1 kind ++ put1 tag ++ put2 payload.length ++ payload) = decodePayload kind tag payload := by
  simp only [put1, put2, List.cons_append, List.nil_append, decodeFrame, toNat_byteOf_zero hkind, toNat_byteOf_zero htag,
    be2_byteOf hlen]
  exact if_pos ⟨hl, trivial⟩

theorem tagByte_lt {i : Instr} (h : i.wellFormed = true) : i.tagByte < 256 := by
  cases i with
  | mount | unmount | flushMap | read | write | erase | data | cancel =>
    simp only [Instr.wellFormed, isU8, Bool.and_eq_true, decide_eq_true_eq] at h
    simp [Instr.tagByte, h]
  | _ => exact Nat.lt_succ_self 255

theorem kindCode_lt {i : Instr} {kind : Nat} (hk : i.kindCode = some kind) : kind < 256 := by
  cases i <;> cases hk <;> decide

theorem payload_length {i : Instr} (h : i.wellFormed = true) {kind : Nat} (hk : i.kindCode = some kind) :
    i.payload.length < 65536 ∧ payloadLength kind = some i.payload.length := by
  cases i with
  | data tag lsn bytes =>
    refine ⟨?_, Laws.WireFormat.data tag lsn bytes h kind hk⟩
    simp only [Instr.wellFormed, Bool.and_eq_true, decide_eq_true_eq] at h
    simp [Instr.payload, put3, h]
  | status | sense | configure | reset | mount | unmount | flushMap | readMap | read | write | erase | cancel | play
  | stopPlay | setRecorder | setPower | calcPower =>
    cases hk
    exact ⟨Nat.le_of_ble_eq_true rfl, rfl⟩
  | _ => cases hk

/-- The payload of a well-formed command is read back, operand by operand. -/
theorem decodePayload_payload {i : Instr} (h : i.wellFormed = true) {kind : Nat} (hk : i.kindCode = some kind) :
    decodePayload kind i.tagByte i.payload = some i := by
  cases i with
  | status | sense | reset | stopPlay | mount | flushMap | cancel =>
    cases hk
    rfl
  | configure | unmount | readMap | read | write | erase | data | play | setRecorder | setPower | calcPower =>
    cases hk
    simp only [Instr.wellFormed, isU8, isU16, isU24, isS16, Bool.and_eq_true, decide_eq_true_eq] at h
    refine congrArg some ?_
    simp [Instr.tagByte, toNat_byteOf_zero, be2_byteOf, be3_byteOf, toS16_be2_byteOf, h]
  | _ => cases hk

/-! ### Records laid out (R189, R198 to R202) -/

theorem bigEndian_one (v : Nat) : bigEndian 1 v = put1 v := rfl
theorem bigEndian_two (v : Nat) : bigEndian 2 v = put2 v := rfl
theorem bigEndian_three (v : Nat) : bigEndian 3 v = put3 v := rfl
theorem bigEndian_four (v : Nat) : bigEndian 4 v = put4 v := rfl

theorem bitField_eq (bits : List Bool) : bitField bits = bitsToNat bits := by
  have weighted (k : Nat) : ((bits.zipIdx k).map fun b => if b.1 then 2 ^ b.2 else 0).sum = 2 ^ k * bitsToNat bits := by
    induction bits generalizing k with
    | nil => simp [bitsToNat]
    | cons b bs ih =>
      rw [List.zipIdx_cons, List.map_cons, List.sum_cons, ih, bitsToNat, pow_succ]
      cases b <;> simp <;> ring
  simpa [bitField] using weighted 0

theorem twosComplement_two (v : Int) : twosComplement 2 v = put2 (ofS16 v) := by
  simp [twosComplement, bigEndian_two, ofS16]

theorem twosComplement_three (v : Int) : twosComplement 3 v = putS3 v := by
  simp [twosComplement, bigEndian_three, putS3]

theorem lsnField_eq (l : Option Nat) : lsnField l = putLsn l := by cases l <;> rfl

theorem entryField_eq (e : Entry) : entryField e = e.bytes := by
  cases e <;> simp [entryField, Entry.bytes, putPsa, lsnField_eq, bigEndian_one, bigEndian_two, Entry.lsn?, Entry.spare]

theorem activePageCode_eq (c : PageCondition) :
    (if c = .waiting then 1 else if c = .playing then 2 else 0) = activePageCode c := by
  cases c <;> rfl

theorem pendingPageCode_eq (c : PageCondition) : (if c = .pending then 1 else 0) = pendingPageCode c := by
  cases c <;> rfl

/-- The two field lists agree once the optional fields are told apart. (`delta`, since the equation lemma of so long a list
is out of reach.) -/
theorem statusLayout_eq (r : StatusReport) : statusLayout r = r.bytes := by
  delta statusLayout StatusReport.bytes
  simp only [activePageCode_eq, pendingPageCode_eq, bitField_eq, bigEndian_one, bigEndian_two, twosComplement_two]
  cases r.track <;> cases r.temperature <;>
    simp only [temperatureBytes, List.append_assoc, reduceCtorEq, if_true, if_false] <;> rfl

/-- The tables lay a record out as the port frames it. -/
theorem layout_eq (r : Record) : r.layout = (r.kind, r.payload) := by
  cases r with
  | taken => rfl
  | refused => simp [Record.layout, Record.kind, Record.payload, Refused.code, codeIn, bigEndian_one, Nat.add_comm]
  | done =>
    simp [Record.layout, Record.kind, Record.payload, DoneOutcome.code, Reason.code, codeIn, bigEndian_one, lsnField_eq]
  | dataIn => rfl
  | pageDone pageId outcome lines fillLines killedLines failedSectors =>
    have capped : (if 65535 < failedSectors then 65535 else failedSectors) = min failedSectors 65535 := by split <;> omega
    simp [Record.layout, Record.kind, Record.payload, PageOutcome.code, codeIn, bigEndian_one, bigEndian_two, capped]
  | statusReport => exact congrArg (Prod.mk _) (statusLayout_eq _)
  | senseReport =>
    simp [Record.layout, Record.kind, Record.payload, bitField_eq, bigEndian_one, bigEndian_two, setBits, conditionBits,
      Sticky.code]
  | mapReport r =>
    have entries : entryField = Entry.bytes := funext entryField_eq
    simp [Record.layout, Record.kind, Record.payload, MapReport.bytes, MapStatus.code, codeIn, boolCode, entries, bigEndian_one,
      bigEndian_two, bigEndian_four]
  | calcReport =>
    simp [Record.layout, Record.kind, Record.payload, bitField_eq, bigEndian_one, bigEndian_two, twosComplement_three,
      Flags.code]

theorem withParity_odd (b : Byte) :
    ((List.range 8).countP (fun i => (withParity b).1.getLsbD i) + (if (withParity b).2 then 1 else 0)) % 2 = 1 := by
  change (ones b + if decide (ones b % 2 = 0) = true then 1 else 0) % 2 = 1
  simp only [decide_eq_true_eq]
  split <;> omega

/-- Settles O11: a frame is read as its payload is, whose fields are read back one by one; the layout of a record is its kind
and payload, each field written high byte first. -/
theorem framesReadBack : Obligations.FramesReadBack := by
  have readsBack {i : Instr} {bytes : List Byte} (hw : i.wellFormed = true) (h : encodeFrame i = some bytes) :
      decodeFrame bytes = some i := by
    obtain ⟨kind, hk, rfl⟩ := Option.map_eq_some_iff.mp h
    obtain ⟨hlen, hl⟩ := payload_length hw hk
    exact (decodeFrame_of_length (kindCode_lt hk) (tagByte_lt hw) hlen hl).trans (decodePayload_payload hw hk)
  refine ⟨fun i bytes => readsBack, fun i hw hk => ?_, fun r => ⟨?_, ?_, ?_, ?_⟩⟩
  · obtain ⟨kind, hk⟩ := Option.isSome_iff_exists.mp hk
    have framed : encodeFrame i = some _ := congrArg (Option.map _) hk
    exact ⟨_, framed, readsBack hw framed⟩
  · rw [layout_eq]
    rfl
  · simp [Record.onLane, withParity, Function.comp_def]
  · intro b hb
    obtain ⟨x, -, rfl⟩ := List.mem_map.mp hb
    exact withParity_odd x
  · cases r <;> simp [Record.tagByte, byteOf]

end Sys2Proof.Machine

/-! # Chapter 4: the planner at the end of a job

The end of a job takes its action off the revolution plan and changes nothing else of the planner (R81). -/

namespace Sys2Proof.Machine

/-- A planner apart from the actions of its plan. -/
def Planner.standing (p : Planner) : Planner := { p with plan := p.plan.map fun q => { q with actions := [] } }

/-- The table of R65 asks whether there is a plan, not what it holds. -/
theorem Planner.lawful_standing (p : Planner) : p.standing.Lawful ↔ p.Lawful := by
  obtain ⟨head, _, _, _, _, _, _, _⟩ := p
  cases head <;> simp [Planner.Lawful, Planner.standing]

theorem Planner.lawful_of_standing {p q : Planner} (h : p.standing = q.standing) : p.Lawful ↔ q.Lawful := by
  rw [← p.lawful_standing, h, q.lawful_standing]

@[simp] theorem State.leaveTable_standing (s : State) (id) : (s.leaveTable id).planner.standing = s.planner.standing := by
  cases h : s.planner.plan <;> simp [State.leaveTable, Planner.standing, h]

@[simp] theorem State.endRead_standing (s : State) (j e) : (s.endRead j e).planner.standing = s.planner.standing := by
  simp [State.endRead]

@[simp] theorem State.serveHeld_standing (s : State) (w copies id) :
    (s.serveHeld w copies id).planner.standing = s.planner.standing := by
  unfold State.serveHeld State.copyFrom
  repeat' split
  all_goals simp

@[simp] theorem State.endWrite_standing (s : State) (j e) : (s.endWrite j e).planner.standing = s.planner.standing := by
  unfold State.endWrite
  repeat' split
  all_goals simp [foldl_keeps fun u : State => u.planner.standing]

@[simp] theorem State.endJob_standing (s : State) (j e) : (s.endJob j e).planner.standing = s.planner.standing := by
  unfold State.endJob
  split <;> simp

@[simp] theorem State.endJobs_standing (s : State) (pick e) :
    (s.endJobs pick e).planner.standing = s.planner.standing := by
  refine foldl_keeps (fun u : State => u.planner.standing) (fun u id => ?_) _ _
  unfold State.endJobId
  split <;> simp

@[simp] theorem State.reassign_standing (s : State) (id) : (s.reassign id).planner.standing = s.planner.standing := by
  unfold State.reassign
  dsimp only
  repeat' split
  all_goals simp

@[simp] theorem State.secondStageEffect_standing (s : State) :
    s.secondStageEffect.planner.standing = s.planner.standing := by
  unfold State.secondStageEffect
  dsimp only
  split <;> simp

@[simp] theorem State.cancelEffect_standing (s : State) (tag) :
    (s.cancelEffect tag).planner.standing = s.planner.standing := by
  simp [State.cancelEffect]

@[simp] theorem State.removeOrphans_standing (s : State) : s.removeOrphans.planner.standing = s.planner.standing := by
  simp [State.removeOrphans]

@[simp] theorem State.indexJobs_standing (s : State) : s.indexJobs.planner.standing = s.planner.standing := by
  unfold State.indexJobs
  dsimp only
  repeat' split
  all_goals simp [foldl_keeps fun u : State => u.planner.standing]

@[simp] theorem State.failedAttempt_standing (s : State) (reason b j) :
    (s.failedAttempt reason b j).planner.standing = s.planner.standing := by
  unfold State.failedAttempt
  dsimp only
  repeat' split
  all_goals simp

@[simp] theorem State.idFailure_standing (s : State) (j) : (s.idFailure j).planner.standing = s.planner.standing := by
  unfold State.idFailure
  dsimp only
  repeat' split
  all_goals simp

@[simp] theorem State.checkFailed_standing (s : State) (j) : (s.checkFailed j).planner.standing = s.planner.standing := by
  unfold State.checkFailed
  dsimp only
  repeat' split
  all_goals simp

@[simp] theorem State.complete_standing (s : State) (a j o) :
    (s.complete a j o).planner.standing = s.planner.standing := by
  unfold State.complete State.completeRead
  dsimp only
  repeat' split
  all_goals simp

@[simp] theorem State.sectorEnd_standing (s : State) (o) : (s.sectorEnd o).planner.standing = s.planner.standing := by
  unfold State.sectorEnd
  dsimp only
  repeat' split
  all_goals simp

@[simp] theorem State.clearPage_standing (s : State) (place) :
    (s.clearPage place).planner.standing = s.planner.standing := by
  simp [State.clearPage]

@[simp] theorem State.finishPage_standing (s : State) : s.finishPage.planner.standing = s.planner.standing := by
  unfold State.finishPage
  split <;> simp

@[simp] theorem State.advanceRead_standing (s : State) : s.advanceRead.planner.standing = s.planner.standing := by
  unfold State.advanceRead
  dsimp only
  repeat' split
  all_goals simp

@[simp] theorem State.pageLine_standing (s : State) (kind line) :
    (s.pageLine kind line).planner.standing = s.planner.standing := by
  unfold State.pageLine
  dsimp only
  repeat' split
  all_goals simp

@[simp] theorem State.lineRequest_standing (s : State) : s.lineRequest.planner.standing = s.planner.standing := by
  unfold State.lineRequest State.playLine State.abandon
  dsimp only
  repeat' split
  all_goals simp

@[simp] theorem State.killEvent_standing (s : State) : s.killEvent.planner.standing = s.planner.standing := by
  unfold State.killEvent State.killPage
  dsimp only
  repeat' split
  all_goals simp

end Sys2Proof.Machine

/-! # The step: what every step keeps

A step is made of internal steps, the arrival of a frame, and the events from outside; what each of them keeps, the step
keeps. -/

namespace Sys2Proof.Machine

/-- The own effect of a command that is an event from outside; a frame and an internal step are none. -/
def eventEffect : Instr → State → State
  | .emptyFrame => State.withdrawOffered
  | .recordLeavesLane => State.recordLeaves
  | .hardwareReset cartridge kill => State.hardwareReset cartridge kill
  | .cartridgePresent => fun s => if s.sup.mount = .empty then (s.setMount .loaded).raise .cartridgeInserted else s
  | .cartridgeAbsent => State.cartridgeGone
  | .protectTab isSet => State.tabEvent isSet
  | .ejectButton => State.ejectPressed
  | .spindleAtSpeed => fun s => if s.sup.mount = .spinningUp then s.startMapping else s
  | .spindleStopped => State.spindleHalts
  | .spinUpTimerExpiry => fun s => if s.sup.spinUpTimer then s.spinUpFails else s
  | .indexTimerExpiry => fun s => if s.sup.indexTimer then s.faultSpinDown .spindle else s
  | .temperatureReading value => State.temperatureRead value
  | .index => State.indexEvent
  | .sectorMark header => State.sectorMark header
  | .sectorEnd outcome => State.sectorEnd outcome
  | .seekDone => State.seekEnds
  | .seekFault => State.seekFails
  | .seekTimerExpiry => fun s => if s.planner.seekTimer ∧ s.planner.head = .seeking then s.countFailure else s
  | .recalibrationTimerExpiry =>
      fun s => if s.planner.recalTimer ∧ s.planner.head = .recalibrating then s.recalibrationFails else s
  | .offTrack => State.offTrackEvent
  | .focusLost => State.focusLostEvent
  | .focusRegained => State.focusRegainedEvent
  | .refocusTimerExpiry => fun s => if s.seq.refocusTimer then s.faultSpinDown .head else s
  | .magnetSense value => State.senseReport value
  | .flipTimerExpiry => State.flipTimerExpires
  | .settleTimeoutExpiry => State.settleTimeoutExpires
  | .lineRequest => State.lineRequest
  | .killAsserted => State.killEvent
  | .killReleased => fun s => s.withStream { s.stream with killLevel := false }
  | .frameLineDroppedAfterReset => fun s => s.withLink { s.link with frameWait := false }
  | _ => id

/-- A command is a frame, an event, one of the internal steps, or a cancel that takes effect. -/
theorem exec_cases (c : Instr) (s : State) :
    exec c s = onFrame c (State.arrive c) s ∨ exec c s = onEvent (eventEffect c) s ∨
    (∃ i ∈ internalSteps, exec c s = onStep i.due i.effect s) ∨
    ∃ tag, exec c s = onStep (State.cancelDue tag) (fun s => s.cancelEffect tag) s := by
  have internal (k : Nat) (hk : k < internalSteps.length)
      (h : exec c s = onStep internalSteps[k].due internalSteps[k].effect s) :
      ∃ i ∈ internalSteps, exec c s = onStep i.due i.effect s := ⟨_, List.getElem_mem hk, h⟩
  cases c with
  | status | sense | configure | reset | mount | unmount | flushMap | readMap | read | write | erase | data | cancel | play
  | stopPlay | setRecorder | setPower | calcPower | refusedFrame => exact .inl rfl
  | inhibitSecondStage => exact .inr (.inr (.inl (internal 1 (by decide) rfl)))
  | orphanRemoval => exact .inr (.inr (.inl (internal 2 (by decide) rfl)))
  | mapLoadDecision => exact .inr (.inr (.inl (internal 3 (by decide) rfl)))
  | mountComplete => exact .inr (.inr (.inl (internal 4 (by decide) rfl)))
  | flushFails => exact .inr (.inr (.inl (internal 5 (by decide) rfl)))
  | flushSucceeds => exact .inr (.inr (.inl (internal 6 (by decide) rfl)))
  | flushTakesSlots => exact .inr (.inr (.inl (internal 7 (by decide) rfl)))
  | streamClaimMet => exact .inr (.inr (.inl (internal 8 (by decide) rfl)))
  | mapWriteClaimMet => exact .inr (.inr (.inl (internal 9 (by decide) rfl)))
  | pageStart => exact .inr (.inr (.inl (internal 10 (by decide) rfl)))
  | drained => exact .inr (.inr (.inl (internal 11 (by decide) rfl)))
  | completionEntersQueue => exact .inr (.inr (.inl (internal 12 (by decide) rfl)))
  | replyPlaceHeld => exact .inr (.inr (.inl (internal 13 (by decide) rfl)))
  | cancelTakesEffect tag => exact .inr (.inr (.inr ⟨tag, rfl⟩))
  | _ => exact .inr (.inl rfl)

/-- What the internal steps, the arrivals and the events keep, every step keeps. -/
theorem step_keeps {P : State → Prop} (pending : ∀ s x, P s → P (s.withPending x))
    (offer : ∀ s c, P s → P (s.offer c)) (internal : ∀ i ∈ internalSteps, ∀ s, i.due s = true → P s → P (i.effect s))
    (cancel : ∀ s tag, P s → P (s.cancelEffect tag)) (arrive : ∀ s c, s.link.accepting = true → P s → P (s.arrive c))
    (event : ∀ s c, P s → P (eventEffect c s)) {s t : State} (hs : P s) (h : step s = .next t) : P t := by
  have settled {u : State} (hu : P u) : P (settle u) := settle_keeps internal u hu
  have frame {c : Instr} {u : State} (hu : P u) (hc : onFrame c (State.arrive c) u = .next t) : P t := by
    obtain rfl := Host.Outcome.next.inj hc
    split
    · exact settled hu
    next hw =>
      split
      next hh => exact arrive _ c (by simp [Link.accepting, hh.1, hw]) (settled hu)
      · exact offer _ c (settled hu)
  have inner {due : State → Bool} {effect : State → State} {u : State} (he : due u = true → P (effect u)) (hu : P u)
      (hc : onStep due effect u = .next t) : P t := by
    obtain rfl := Host.Outcome.next.inj hc
    split
    next hd => exact he hd
    · exact hu
  unfold step at h
  split at h
  next c rest _ =>
    have hu := pending s rest hs
    rcases exec_cases c (s.withPending rest) with hc | hc | ⟨i, hi, hc⟩ | ⟨tag, hc⟩
    · exact frame hu (hc.symm.trans h)
    · obtain rfl := Host.Outcome.next.inj (hc.symm.trans h)
      exact event _ c (settled hu)
    · exact inner (fun hd => internal i hi _ hd hu) hu (hc.symm.trans h)
    · exact inner (fun _ => cancel _ tag hu) hu (hc.symm.trans h)
  · obtain rfl := Host.Outcome.next.inj h
    exact settled hs

end Sys2Proof.Machine

/-! # Chapters 4 and 6: the state tables of the magnet and of the head

Each operation on the magnet leads from one row of the table of R112 to another, each on the planner from one row of R65 to
another. Neither table asks for the other, so each is kept by itself. -/

namespace Sys2Proof.Machine

/-! ### The operations on the magnet (R112, R114 to R118) -/

theorem Magnet.unset_lawful (m : Magnet) : m.unset.Lawful := ⟨rfl, rfl, rfl⟩

theorem Magnet.movingToward_eq_some {m : Magnet} {p : Polarity} : m.movingToward = some p ↔ m.state = p.moving := by
  cases p <;> cases h : m.state <;> simp [Magnet.movingToward, Polarity.moving, h]

/-- The rows of R112 with a flip in progress. -/
theorem Magnet.lawful_of_moving {m : Magnet} {p : Polarity} (h : m.movingToward = some p) :
    m.Lawful ↔ m.coil = some p ∧ m.flipExpired = !m.flipRunning ∧ m.settleTimer = true := by
  cases p <;> simp [Magnet.Lawful, Magnet.movingToward_eq_some.mp h, Polarity.moving]

/-- The rows of R112 with no flip in progress. -/
theorem Magnet.flipRunning_of_still {m : Magnet} (h : m.movingToward = none) (hm : m.Lawful) : m.flipRunning = false := by
  unfold Magnet.movingToward at h
  unfold Magnet.Lawful at hm
  cases hs : m.state <;> rw [hs] at h hm <;> simp_all

theorem State.requestFlip_lawful {s : State} (p : Polarity) (h : s.magnet.Lawful) : (s.requestFlip p).magnet.Lawful := by
  unfold State.requestFlip
  split
  · cases p <;> exact ⟨rfl, rfl, rfl⟩
  · exact h

theorem State.settleFlip_magnet (s : State) (p : Polarity) :
    (s.settleFlip p).magnet = { s.magnet with settleTimer := false, state := p.settled } := by
  unfold State.settleFlip
  dsimp only
  split <;> simp

/-- A flip in progress settles lawfully once the flip time is over (R115). -/
theorem State.settleFlip_lawful {s : State} {p : Polarity} (hc : s.magnet.coil = some p)
    (hr : s.magnet.flipRunning = false) : (s.settleFlip p).magnet.Lawful := by
  rw [State.settleFlip_magnet]
  cases p <;> exact ⟨hc, hr, rfl⟩

theorem State.senseReport_lawful {s : State} (v : Sense) (h : s.magnet.Lawful) : (s.senseReport v).magnet.Lawful := by
  unfold State.senseReport
  dsimp only
  split
  next p hp =>
    obtain ⟨hc, he, hs⟩ := (Magnet.lawful_of_moving hp).mp h
    have moving (b : Bool) : ({ s.magnet with lastSense := v, senseAgreed := b } : Magnet).Lawful :=
      (Magnet.lawful_of_moving hp).mpr ⟨hc, he, hs⟩
    split
    · split
      next hx =>
        have timeUp : (!s.magnet.flipRunning) = true := he.symm.trans hx
        exact State.settleFlip_lawful hc (by simpa using timeUp)
      · exact moving true
    · exact moving false
  · exact h

theorem State.flipTimerExpires_lawful {s : State} (h : s.magnet.Lawful) : s.flipTimerExpires.magnet.Lawful := by
  unfold State.flipTimerExpires
  split
  next hr =>
    dsimp only
    split
    next p hp =>
      obtain ⟨hc, -, hs⟩ := (Magnet.lawful_of_moving (m := s.magnet) hp).mp h
      split
      · exact State.settleFlip_lawful hc rfl
      · exact (Magnet.lawful_of_moving hp).mpr ⟨hc, rfl, hs⟩
    next hp => cases hr.symm.trans (Magnet.flipRunning_of_still (m := s.magnet) hp h)
  · exact h

theorem State.settleTimeoutExpires_lawful {s : State} (h : s.magnet.Lawful) :
    s.settleTimeoutExpires.magnet.Lawful := by
  unfold State.settleTimeoutExpires
  split
  · simp [Magnet.Lawful]
  · exact h

/-! ### The two state tables together (R65, R112) -/

/-- From one state to another the magnet keeps the table of R112, and the head that of R65. -/
structure KeepsMechanism (s t : State) : Prop where
  magnet  : s.magnet.Lawful → t.magnet.Lawful
  planner : s.planner.Lawful → t.planner.Lawful

theorem KeepsMechanism.refl (s : State) : KeepsMechanism s s := ⟨id, id⟩

theorem KeepsMechanism.trans {s t u : State} (h : KeepsMechanism s t) (k : KeepsMechanism t u) : KeepsMechanism s u :=
  ⟨k.magnet ∘ h.magnet, k.planner ∘ h.planner⟩

/-- Where neither the magnet nor the planner changes, but for the actions of the plan, both tables are kept. -/
theorem KeepsMechanism.of_eq {s t : State} (hm : t.magnet = s.magnet) (hp : t.planner.standing = s.planner.standing) :
    KeepsMechanism s t := ⟨fun h => hm ▸ h, (Planner.lawful_of_standing hp).mpr⟩

theorem KeepsMechanism.of_ite {s t u : State} {c : Prop} [Decidable c] (ht : KeepsMechanism s t)
    (hu : KeepsMechanism s u) : KeepsMechanism s (if c then t else u) := by
  split
  · exact ht
  · exact hu

/-! ### Seeks (R67, R71, R84) -/

/-- The flip check of a seek asks for at most one flip (R84). -/
theorem State.flipWithSeek_cases (s : State) (d : Nat) :
    s.flipWithSeek d = s ∨ ∃ p, s.flipWithSeek d = s.requestFlip p := by
  unfold State.flipWithSeek
  dsimp only
  repeat' split
  · exact .inr ⟨_, rfl⟩
  · exact .inl rfl
  · exact .inl rfl

@[simp] theorem State.issueSeek_planner (s : State) (d : Nat) :
    (s.issueSeek d).planner = { s.planner with
      failures := if s.planner.target = some d then s.planner.failures else 0
      seekTimer := true, target := some d, current := none, head := .seeking, plan := none } := by
  simp [State.issueSeek]

@[simp] theorem State.issueSeek_emitted (s : State) (d : Nat) : (s.issueSeek d).emitted = s.emitted ++ [.seek d] := by
  simp [State.issueSeek, State.emit]

theorem State.issueSeek_magnet_lawful {s : State} (d : Nat) (h : s.magnet.Lawful) : (s.issueSeek d).magnet.Lawful := by
  unfold State.issueSeek
  dsimp only
  rcases State.flipWithSeek_cases (((s.emit (.seek d)).withPlanner _)) d with he | ⟨p, he⟩ <;> rw [he]
  · exact h
  · exact State.requestFlip_lawful p h

/-- A seek leaves the head SEEKING its target, whatever the planner was before. -/
theorem KeepsMechanism.of_seek {s u : State} (d : Nat) (hm : u.magnet = s.magnet) : KeepsMechanism s (u.issueSeek d) :=
  ⟨fun h => State.issueSeek_magnet_lawful d (hm ▸ h), fun _ => by simp [Planner.Lawful]⟩

/-- The seek choice issues one seek or leaves the head where it is (R71). -/
theorem State.seekChoice_cases (s : State) : s.seekChoice = s ∨ ∃ d, s.seekChoice = s.issueSeek d := by
  unfold State.seekChoice
  dsimp only
  split
  · exact .inr ⟨_, rfl⟩
  · split
    · exact .inr ⟨_, rfl⟩
    · exact .inl rfl

theorem State.seekChoice_keeps (s : State) : KeepsMechanism s s.seekChoice := by
  rcases s.seekChoice_cases with he | ⟨d, he⟩ <;> rw [he]
  · exact .refl s
  · exact .of_seek d rfl

/-- The head that becomes UNPOSITIONED has no track, no target and no plan, whatever the planner was before. -/
theorem KeepsMechanism.of_unpositioned {s u : State} (hm : u.magnet = s.magnet) :
    KeepsMechanism s u.becomeUnpositioned :=
  let keeps := State.seekChoice_keeps
    (u.withPlanner { u.planner with head := .unpositioned, current := none, target := none, plan := none })
  ⟨fun h => keeps.magnet (hm ▸ h), fun _ => keeps.planner ⟨rfl, rfl, rfl⟩⟩

/-! ### The index decision (R74 to R79) -/

/-- A head with nothing to do on its track is SETTLED there, or seeks from there (R79, R82). -/
theorem State.moveOn_cases (s : State) (t : Nat) : ∃ sweep,
    let u := s.withPlanner { s.planner with sweep := sweep, head := .settled, plan := none }
    s.moveOn t = u ∨ ∃ d, s.moveOn t = u.issueSeek d := by
  unfold State.moveOn
  dsimp only
  split
  · exact ⟨_, .inr ⟨_, rfl⟩⟩
  · exact ⟨_, .inl rfl⟩

/-- A decision on a track issues a seek; or, after at most one flip request, plans a revolution or moves on. -/
theorem State.planRevolution_cases (s : State) (t : Nat) : (∃ d, s.planRevolution t = s.issueSeek d) ∨
    ∃ u, (u = s ∨ ∃ p, u = s.requestFlip p) ∧
      ((∃ plan, s.planRevolution t = u.withPlanner { u.planner with head := .revolving, plan := some plan }) ∨
        s.planRevolution t = u.moveOn t) := by
  unfold State.planRevolution
  dsimp only
  split
  · exact .inl ⟨_, rfl⟩
  · refine .inr ?_
    generalize flipAtIndex _ _ _ _ = flip
    cases flip with
    | none => exact ⟨s, .inl rfl, (ite_eq_or_eq _ _ _).imp_left fun h => ⟨_, h⟩⟩
    | some p => exact ⟨s.requestFlip p, .inr ⟨p, rfl⟩, (ite_eq_or_eq _ _ _).imp_left fun h => ⟨_, h⟩⟩

/-- On a track, with no target, a decision keeps both tables. -/
theorem State.planRevolution_keeps (s : State) (t : Nat) : (s.magnet.Lawful → (s.planRevolution t).magnet.Lawful) ∧
    (s.planner.current.isSome → s.planner.target = none → (s.planRevolution t).planner.Lawful) := by
  rcases s.planRevolution_cases t with ⟨d, he⟩ | ⟨u, hu, he⟩
  · rw [he]
    exact ⟨State.issueSeek_magnet_lawful d, fun _ _ => by simp [Planner.Lawful]⟩
  · have magnet (h : s.magnet.Lawful) : u.magnet.Lawful := by
      rcases hu with rfl | ⟨p, rfl⟩
      · exact h
      · exact State.requestFlip_lawful p h
    have planner : u.planner = s.planner := by rcases hu with rfl | ⟨p, rfl⟩ <;> simp
    rw [← planner]
    rcases he with ⟨plan, he⟩ | he <;> rw [he]
    · exact ⟨magnet, fun hc ht => ⟨hc, ht, rfl⟩⟩
    · obtain ⟨sweep, he | ⟨d, he⟩⟩ := u.moveOn_cases t <;> rw [he]
      · exact ⟨magnet, fun hc ht => ⟨hc, ht, rfl⟩⟩
      · exact ⟨fun h => State.issueSeek_magnet_lawful d (magnet h), fun _ _ => by simp [Planner.Lawful]⟩

/-- A head that stands on a track has no target (R65). -/
theorem Planner.target_of_onTrack {p : Planner} (h : p.Lawful) (hh : p.head = .settled ∨ p.head = .revolving) :
    p.current.isSome ∧ p.target = none := by
  unfold Planner.Lawful at h
  rcases hh with hh | hh <;> rw [hh] at h <;> exact ⟨h.1, h.2.1⟩

theorem State.indexPlanner_keeps (s : State) : KeepsMechanism s s.indexPlanner := by
  have decides (u : State) (t : Nat) (hh : s.planner.head = .settled ∨ s.planner.head = .revolving)
      (hm : u.magnet = s.magnet) (hc : u.planner.current = s.planner.current) (ht : u.planner.target = s.planner.target) :
      KeepsMechanism s (u.planRevolution t) := by
    obtain ⟨magnet, planner⟩ := u.planRevolution_keeps t
    rw [hm] at magnet
    rw [hc, ht] at planner
    exact ⟨magnet, fun h => planner (Planner.target_of_onTrack h hh).1 (Planner.target_of_onTrack h hh).2⟩
  unfold State.indexPlanner
  split
  next => exact s.seekChoice_keeps
  next hh _ => exact decides s _ (.inl hh) rfl rfl rfl
  next hh _ => exact decides _ _ (.inr hh) rfl rfl rfl
  next => exact .refl s

theorem State.indexEvent_keeps (s : State) : KeepsMechanism s s.indexEvent := by
  have jobs : KeepsMechanism s s.indexSequencer.indexJobs := .of_eq (by simp) (by simp)
  have power (u : State) : KeepsMechanism u u.indexPower := .of_eq (by simp) (by simp)
  exact .of_ite (.refl s) ((jobs.trans (State.indexPlanner_keeps _)).trans (power _))

/-! ### Failures to reach a track, and the end of a seek (R68 to R70) -/

/-- The head gives a track up for UNPOSITIONED, whatever becomes of the jobs there. -/
theorem KeepsMechanism.of_giveUp {s u : State} (t : Nat) (hm : u.magnet = s.magnet) : KeepsMechanism s (u.giveUp t) := by
  refine .of_unpositioned ?_
  rw [State.withPlanner_magnet]
  split <;> simpa using hm

theorem KeepsMechanism.of_countFailure {s u : State} (hm : u.magnet = s.magnet) : KeepsMechanism s u.countFailure := by
  unfold State.countFailure
  dsimp only
  split
  · exact ⟨fun h => hm ▸ h, fun _ => ⟨rfl, rfl⟩⟩
  · split
    · exact .of_giveUp _ hm
    · exact .of_unpositioned hm

theorem State.recalibrationFails_keeps (s : State) : KeepsMechanism s s.recalibrationFails :=
  .of_ite (.of_countFailure rfl) (.of_unpositioned rfl)

theorem State.seekFails_keeps (s : State) : KeepsMechanism s s.seekFails := by
  unfold State.seekFails
  split
  · exact .of_countFailure rfl
  · exact s.recalibrationFails_keeps
  all_goals exact .refl s

theorem State.seekEnds_keeps (s : State) : KeepsMechanism s s.seekEnds := by
  unfold State.seekEnds
  split
  next hh =>
    refine ⟨id, fun h => ?_⟩
    unfold Planner.Lawful at h
    rw [hh] at h
    exact ⟨h.2.1, rfl, h.2.2⟩
  next hh =>
    dsimp only
    split
    · exact .of_seek _ rfl
    next ht =>
      refine ⟨id, fun h => ?_⟩
      unfold Planner.Lawful at h
      rw [hh] at h
      exact ⟨rfl, ht, h.2⟩
  all_goals exact .refl s

/-! ### Disturbances and sector marks (R86, R87, R93) -/

theorem State.offTrackOn_keeps (s : State) (t : Nat) : KeepsMechanism s (s.offTrackOn t) := by
  refine .of_seek t ?_
  split <;> simp

theorem State.offTrackEvent_keeps (s : State) : KeepsMechanism s s.offTrackEvent := by
  unfold State.offTrackEvent
  split
  · exact s.offTrackOn_keeps _
  · exact s.offTrackOn_keeps _
  · exact .refl s

theorem State.focusLostEvent_keeps (s : State) : KeepsMechanism s s.focusLostEvent := by
  unfold State.focusLostEvent
  split
  · exact .refl s
  · exact .refl s
  all_goals exact ⟨fun h => by simpa using h, fun _ => rfl⟩

theorem State.focusRegainedEvent_keeps (s : State) : KeepsMechanism s s.focusRegainedEvent := by
  refine .of_ite ?_ (.refl s)
  dsimp only
  split
  · exact .of_seek _ rfl
  · exact .of_seek _ rfl
  · exact .of_unpositioned rfl

theorem State.takeMark_keeps (s : State) (header : Option Psa) (t : Nat) (a : Planned) :
    KeepsMechanism s (s.takeMark header t a) := by
  unfold State.takeMark
  split
  · exact .of_eq (by simp) (by simp)
  · exact s.offTrackOn_keeps t
  · split
    · exact .of_eq (by simp) (by simp)
    · exact .refl s

theorem State.sectorMark_keeps (s : State) (header : Option Psa) : KeepsMechanism s (s.sectorMark header) := by
  have cut : KeepsMechanism s s.cutOff := .of_eq (by simp) (by simp)
  unfold State.sectorMark
  split
  · refine .of_ite ?_ cut
    dsimp only
    split
    · exact (cut.trans (State.takeMark_keeps _ _ _ _)).trans (.of_eq rfl rfl)
    · exact cut.trans (.of_eq rfl rfl)
  · exact .refl s

/-! ### The supervisor (R23, R25, R27, R34) -/

theorem Planner.stop_lawful (p : Planner) : p.stop.Lawful := ⟨rfl, rfl, rfl⟩

/-- Every way into SPINNING DOWN leaves the magnet UNSET and the head STOPPED (R72, R118). -/
theorem KeepsMechanism.of_rest {s t : State} (h : t.magnet = s.magnet.unset ∧ t.planner = s.planner.stop) :
    KeepsMechanism s t :=
  ⟨fun _ => h.1 ▸ s.magnet.unset_lawful, fun _ => h.2 ▸ s.planner.stop_lawful⟩

@[simp] theorem State.enterSpinningDown_rests (s : State) :
    s.enterSpinningDown.magnet = s.magnet.unset ∧ s.enterSpinningDown.planner = s.planner.stop := ⟨rfl, rfl⟩

@[simp] theorem State.faultSpinDown_rests (s : State) (f : SpinFault) :
    (s.faultSpinDown f).magnet = s.magnet.unset ∧ (s.faultSpinDown f).planner = s.planner.stop := by
  simp [State.faultSpinDown]

@[simp] theorem State.removeMedium_rests (s : State) :
    s.removeMedium.magnet = s.magnet.unset ∧ s.removeMedium.planner = s.planner.stop := by
  simp [State.removeMedium]

@[simp] theorem State.spinUpFails_rests (s : State) :
    s.spinUpFails.magnet = s.magnet.unset ∧ s.spinUpFails.planner = s.planner.stop := by
  unfold State.spinUpFails
  dsimp only
  split <;> simp

theorem State.cartridgeGone_keeps (s : State) : KeepsMechanism s s.cartridgeGone := by
  unfold State.cartridgeGone
  split
  · exact .refl s
  · exact .of_eq (by simp) (by simp)
  all_goals exact .of_rest (by simp)

theorem State.spindleHalts_keeps (s : State) : KeepsMechanism s s.spindleHalts := by
  unfold State.spindleHalts
  split
  case h_5 => exact .of_eq (by simp) (by simp)
  case h_7 | h_8 => exact .refl s
  all_goals exact .of_rest (by simp)

theorem KeepsMechanism.of_flip {s u : State} (p : Polarity) (h : KeepsMechanism s u) :
    KeepsMechanism s (u.requestFlip p) :=
  ⟨fun hm => State.requestFlip_lawful p (h.magnet hm), fun hp => by simpa using h.planner hp⟩

theorem State.startMapping_keeps (s : State) : KeepsMechanism s s.startMapping := .of_flip .erase (.of_seek mapTrack (by simp))

theorem Planner.softReset_lawful {p : Planner} (h : p.Lawful) : p.softReset.Lawful := by
  obtain ⟨head, _, _, _, _, _, _, _⟩ := p
  cases head <;> simp_all [Planner.Lawful, Planner.softReset]

theorem State.softResetMount_keeps (s : State) : KeepsMechanism s s.softResetMount := by
  unfold State.softResetMount
  dsimp only
  split
  case h_1 | h_2 => exact .of_rest (by simp)
  all_goals exact .of_eq (by simp) (by simp)

theorem State.resetCommand_keeps (s : State) : KeepsMechanism s s.resetCommand := by
  have blocks (u : State) (hm : u.magnet = s.magnet) (hp : u.planner = s.planner.softReset) : KeepsMechanism s u :=
    ⟨fun h => hm ▸ h, fun h => hp ▸ Planner.softReset_lawful h⟩
  have answered (u : State) : KeepsMechanism u ((u.withConditions []).taken untagged 0x04 0) := .of_eq (by simp) (by simp)
  exact ((blocks _ (by simp) (by simp)).trans (State.softResetMount_keeps _)).trans (answered _)

/-! ### Arrivals, internal steps and events -/

/-- A refused command changes neither the magnet nor the head. -/
theorem State.checked_keeps {s : State} {tag kind : Nat} {checks : List (Bool × Refused)} {take : State → State}
    (h : (take s).magnet = s.magnet ∧ (take s).planner = s.planner) :
    KeepsMechanism s (s.checked tag kind checks take) := by
  unfold State.checked
  split
  · exact .of_eq (by simp) (by simp)
  · exact .of_eq h.1 (congrArg _ h.2)

/-- Of the frames RESET alone changes the magnet or the head. -/
theorem State.arrive_keeps (s : State) (c : Instr) : KeepsMechanism s (s.arrive c) := by
  cases c with
  | reset => exact s.resetCommand_keeps
  | status | sense | readMap | stopPlay =>
    simp only [State.arrive, State.arriveStatus, State.arriveReadMap, State.arriveStopPlay]
    exact .of_eq (by simp) (by simp)
  | configure | mount | unmount | flushMap | read | write | erase | data | cancel | play =>
    simp only [State.arrive, State.arriveConfigure, State.arriveMount, State.arriveUnmount, State.arriveFlushMap,
      State.spanCommand, State.arriveData, State.arriveCancel, State.arrivePlay]
    exact State.checked_keeps (by simp)
  | setPower | calcPower =>
    simp only [State.arrive, State.arriveSetPower, State.arriveCalc]
    refine State.checked_keeps ?_
    split <;> simp
  | setRecorder | refusedFrame =>
    simp only [State.arrive, State.arriveSetRecorder, State.arriveRefused]
    split <;> exact .of_eq (by simp) (by simp)
  | _ => exact .refl s

theorem State.endFlush_keeps (s : State) (f : FlushContext) (result : Option Reason) :
    KeepsMechanism s (s.endFlush f result) := by
  unfold State.endFlush
  dsimp only
  split
  · exact .of_eq (by simp) (by simp)
  · split <;> exact .of_rest (by simp)

theorem State.flushFailsEffect_keeps (s : State) : KeepsMechanism s s.flushFailsEffect := by
  have entered : KeepsMechanism s s.flushFailureEnters := .of_eq (by simp) (by simp)
  unfold State.flushFailsEffect
  dsimp only
  split
  · exact .of_ite (entered.trans (State.endFlush_keeps _ _ _)) entered
  · exact entered

theorem State.flushSucceedsEffect_keeps (s : State) : KeepsMechanism s s.flushSucceedsEffect := by
  have cleaned (r : Remap) : KeepsMechanism s (s.withRemap r) := .of_eq rfl rfl
  unfold State.flushSucceedsEffect
  split
  · exact (cleaned _).trans (State.endFlush_keeps _ _ _)
  · exact .refl s

theorem State.decideDrained_keeps (s : State) : KeepsMechanism s s.decideDrained :=
  .of_ite (.of_ite (.of_eq (by simp) (by simp)) (.of_rest (by simp))) (.of_rest (by simp))

theorem State.beginOffered_keeps (s : State) : KeepsMechanism s s.beginOffered := by
  unfold State.beginOffered
  split
  · have begun (l : Link) : KeepsMechanism s (s.withLink l) := .of_eq rfl rfl
    exact (begun _).trans (State.arrive_keeps _ _)
  · exact .refl s

theorem internalSteps_keep (s : State) : ∀ i ∈ internalSteps, KeepsMechanism s (i.effect s) := by
  simp only [internalSteps, List.forall_mem_cons]
  refine ⟨?cancel, ?_, ?_, ?_, ?_, s.flushFailsEffect_keeps, s.flushSucceedsEffect_keeps, ?_, ?_, ?_, ?_,
    s.decideDrained_keeps, ?_, ?_, s.beginOffered_keeps,
    List.forall_mem_nil _⟩
  case cancel => split <;> exact .of_eq (by simp) (by simp)
  all_goals exact .of_eq (by simp) (by simp)

theorem eventEffect_keeps (s : State) (c : Instr) : KeepsMechanism s (eventEffect c s) := by
  cases c with
  | hardwareReset => exact ⟨fun _ => ⟨rfl, rfl, rfl⟩, fun _ => ⟨rfl, rfl, rfl⟩⟩
  | cartridgePresent => exact .of_ite (.of_eq (by simp) (by simp)) (.refl s)
  | cartridgeAbsent => exact s.cartridgeGone_keeps
  | spindleAtSpeed => exact .of_ite s.startMapping_keeps (.refl s)
  | spindleStopped => exact s.spindleHalts_keeps
  | spinUpTimerExpiry | indexTimerExpiry | refocusTimerExpiry => exact .of_ite (.of_rest (by simp)) (.refl s)
  | index => exact s.indexEvent_keeps
  | sectorMark header => exact s.sectorMark_keeps header
  | seekDone => exact s.seekEnds_keeps
  | seekFault => exact s.seekFails_keeps
  | seekTimerExpiry => exact .of_ite (.of_countFailure rfl) (.refl s)
  | recalibrationTimerExpiry => exact .of_ite s.recalibrationFails_keeps (.refl s)
  | offTrack => exact s.offTrackEvent_keeps
  | focusLost => exact s.focusLostEvent_keeps
  | focusRegained => exact s.focusRegainedEvent_keeps
  | magnetSense value => exact ⟨State.senseReport_lawful value, fun h => by simpa [eventEffect] using h⟩
  | flipTimerExpiry => exact ⟨State.flipTimerExpires_lawful, fun h => by simpa [eventEffect] using h⟩
  | settleTimeoutExpiry => exact ⟨State.settleTimeoutExpires_lawful, fun h => by simpa [eventEffect] using h⟩
  | emptyFrame | killReleased | frameLineDroppedAfterReset => exact .of_eq rfl rfl
  | recordLeavesLane | protectTab | ejectButton | temperatureReading | sectorEnd | lineRequest | killAsserted =>
    exact .of_eq (by simp [eventEffect]) (by simp [eventEffect])
  | _ => exact .refl s

/-- One step keeps both tables, each by itself. -/
theorem step_keepsMechanism {s t : State} (h : step s = .next t) : KeepsMechanism s t :=
  step_keeps (P := KeepsMechanism s)
    (pending := fun _ _ hs => hs.trans (.of_eq rfl rfl))
    (offer := fun _ _ hs => hs.trans (.of_eq rfl rfl))
    (internal := fun i hi u _ hs => hs.trans (internalSteps_keep u i hi))
    (cancel := fun u tag hs => hs.trans (.of_eq (by simp) (by simp)))
    (arrive := fun u c _ hs => hs.trans (u.arrive_keeps c))
    (event := fun u c hs => hs.trans (eventEffect_keeps u c))
    (.refl s) h

/-- Settles O9: each internal step, each frame and each event keeps the table of R65 and that of R112. -/
theorem stepKeepsMagnetAndHeadLaws : Obligations.StepKeepsMagnetAndHeadLaws :=
  ⟨fun _ _ hs h => (step_keepsMechanism h).magnet hs, fun _ _ hs h => (step_keepsMechanism h).planner hs⟩

end Sys2Proof.Machine

/-! # Chapter 4: the elevator, and seeks with their flip check

What a seek does to the magnet is one equivalence with the condition of R84; the seek choice and the events of the head are
read off it. -/

namespace Sys2Proof.Machine

/-! ### The elevator (R82) -/

theorem min?_above_eq_some {t x : Nat} {tracks : List Nat} (hx : x ∈ tracks) (ht : t < x)
    (hmin : ∀ y ∈ tracks, t < y → x ≤ y) : (tracks.filter (t < ·)).min? = some x := by
  refine List.min?_eq_some_iff.mpr ⟨by simp [hx, ht], fun y hy => ?_⟩
  simp only [List.mem_filter, decide_eq_true_eq] at hy
  exact hmin y hy.1 hy.2

theorem max?_below_eq_some {t x : Nat} {tracks : List Nat} (hx : x ∈ tracks) (ht : x < t)
    (hmax : ∀ y ∈ tracks, y < t → y ≤ x) : (tracks.filter (· < t)).max? = some x := by
  refine List.max?_eq_some_iff.mpr ⟨by simp [hx, ht], fun y hy => ?_⟩
  simp only [List.mem_filter, decide_eq_true_eq] at hy
  exact hmax y hy.1 hy.2

theorem min?_above_eq_none {t : Nat} {tracks : List Nat} (h : ∀ y ∈ tracks, y ≤ t) :
    (tracks.filter (t < ·)).min? = none := by
  simpa [List.min?_eq_none_iff] using h

theorem max?_below_eq_none {t : Nat} {tracks : List Nat} (h : ∀ y ∈ tracks, t ≤ y) :
    (tracks.filter (· < t)).max? = none := by
  simpa [List.max?_eq_none_iff] using h

/-- Settles O39: the track ahead is the minimum above or the maximum below, and its absence turns the sweep. -/
theorem elevatorTakesTheNearestAhead : Obligations.ElevatorTakesTheNearestAhead := by
  intro t x tracks
  refine ⟨fun hx ht hmin => ?_, fun hx ht hmax => ?_, fun hx ht hmax hnone => ?_, fun hx ht hmin hnone => ?_, fun h => ?_⟩
  · simp [elevator, min?_above_eq_some hx ht hmin]
  · simp [elevator, max?_below_eq_some hx ht hmax]
  · simp [elevator, min?_above_eq_none hnone, max?_below_eq_some hx ht hmax]
  · simp [elevator, max?_below_eq_none hnone, min?_above_eq_some hx ht hmin]
  · have above := min?_above_eq_none fun y hy => (h y hy).le
    have below := max?_below_eq_none fun y hy => (h y hy).ge
    simp [elevator, above, below]

/-! ### The flip check of a seek (R84, R114) -/

theorem Magnet.takes_other {m : Magnet} {p : Polarity} (h : m.settled = some p) : m.takes p.other = true := by
  cases hs : m.state <;> simp only [Magnet.settled, hs, reduceCtorEq, Option.some.injEq] at h <;> subst h <;>
    simp [Magnet.takes, hs, Polarity.other]

/-- A flip away from the polarity held is taken, and turns the magnet (R114). -/
theorem State.requestFlip_turned {s : State} {p : Polarity} (h : s.magnet.settled = some p) :
    (s.requestFlip p.other).magnet = s.magnet.turned p.other := by
  unfold State.requestFlip
  rw [if_pos (Magnet.takes_other h)]
  cases p <;> rfl

/-- Of the two polarities a job that needs one and not the other needs the other. -/
theorem Polarity.need_iff {n : Option Polarity} {p : Polarity} (h : n ≠ some p) : n.isSome = true ↔ n = some p.other := by
  rcases n with _ | q
  · simp
  · cases p <;> cases q <;> simp_all [Polarity.other]

/-- The flip check asks for the other polarity exactly where `State.flipsWithSeek` says (R84). -/
theorem State.flipWithSeek_eq (s : State) (d : Nat) :
    (∀ p, s.flipsWithSeek d p → s.flipWithSeek d = s.requestFlip p.other) ∧
      ((∀ p, ¬s.flipsWithSeek d p) → s.flipWithSeek d = s) := by
  unfold State.flipsWithSeek State.flipWithSeek
  cases hp : s.magnet.settled with
  | none => simp
  | some p =>
    dsimp only
    generalize hneed : (s.openWriters.filter fun j => j.need.isSome) = needing
    have mem (j : Job) : j ∈ needing ↔ j ∈ s.openWriters ∧ j.need.isSome = true := by rw [← hneed, List.mem_filter]
    have check : (!(needing.filter fun j => decide (j.target.track = d)).isEmpty
        && (needing.filter fun j => decide (j.target.track = d)).all (fun j => decide (j.need = some p.other))
        && needing.all (fun j => decide (j.need ≠ some p))) = true ↔
        (∃ j ∈ s.openWriters, j.target.track = d ∧ j.need = some p.other) ∧ ∀ j ∈ s.openWriters, j.need ≠ some p := by
      simp only [Bool.and_eq_true, List.all_eq_true, List.mem_filter, mem, decide_eq_true_eq, Bool.not_eq_true',
        List.isEmpty_eq_false_iff_exists_mem]
      constructor
      · rintro ⟨⟨⟨j, ⟨hj, hs⟩, hd⟩, hother⟩, hnone⟩
        exact ⟨⟨j, hj, hd, hother j ⟨⟨hj, hs⟩, hd⟩⟩, fun k hk hn => hnone k ⟨hk, by simp [hn]⟩ hn⟩
      · rintro ⟨⟨j, hj, hd, hother⟩, hnone⟩
        exact ⟨⟨⟨j, ⟨hj, by simp [hother]⟩, hd⟩, fun k ⟨⟨hk, hs⟩, _⟩ => (Polarity.need_iff (hnone k hk)).mp hs⟩,
          fun k hk => hnone k hk.1⟩
    constructor
    · rintro q ⟨hq, hcond⟩
      obtain rfl := Option.some.inj hq
      exact if_pos (check.mpr hcond)
    · exact fun h => if_neg fun hc => h p ⟨rfl, check.mp hc⟩

theorem State.flipsWithSeek_congr {u v : State} (hm : u.magnet = v.magnet) (hj : u.jobs = v.jobs) (d : Nat) (p : Polarity) :
    u.flipsWithSeek d p ↔ v.flipsWithSeek d p := by
  simp only [State.flipsWithSeek, State.openWriters, hm, hj]

/-- A state whose magnet a seek left so, with the job table it found, has made the flip check of the seek. -/
theorem FlipsWithSeek.of_issueSeek {s t u : State} {d : Nat} (hu : u.magnet = s.magnet)
    (ht : t.magnet = (u.issueSeek d).magnet) (hj : t.jobs = u.jobs) : FlipsWithSeek s t d := by
  obtain ⟨v, hv, hvm, hvj⟩ : ∃ v : State, u.issueSeek d = v.flipWithSeek d ∧ v.magnet = s.magnet ∧ v.jobs = t.jobs :=
    ⟨_, rfl, by simpa using hu, by simpa using hj.symm⟩
  have asked (p : Polarity) : State.flipsWithSeek { t with magnet := s.magnet } d p ↔ v.flipsWithSeek d p :=
    State.flipsWithSeek_congr (u := { t with magnet := s.magnet }) hvm.symm hvj.symm d p
  simp only [hv] at ht
  constructor
  · intro p hp
    have flips := (asked p).mp hp
    rw [ht, (v.flipWithSeek_eq d).1 p flips, State.requestFlip_turned flips.1, hvm]
  · intro hp
    rw [ht, (v.flipWithSeek_eq d).2 fun p h => hp p ((asked p).mpr h), hvm]

/-! ### The seek choice of UNPOSITIONED (R71) -/

theorem State.seekChoice_of_urgent {s : State} {j : Job} (hu : s.urgent = true) (hj : s.unfilledStreamJob = some j) :
    s.seekChoice = s.issueSeek j.target.track := by
  simp [State.seekChoice, hu, hj]

theorem State.seekChoice_of_workable {s : State} {j : Job} (hu : s.urgent = false ∨ s.unfilledStreamJob = none)
    (hj : s.jobs.find? Job.workable = some j) : s.seekChoice = s.issueSeek j.target.track := by
  rcases hu with hu | hu <;> simp [State.seekChoice, hu, hj]

theorem State.seekChoice_of_idle {s : State} (hu : s.urgent = false ∨ s.unfilledStreamJob = none)
    (hj : s.jobs.find? Job.workable = none) : s.seekChoice = s := by
  rcases hu with hu | hu <;> simp only [State.seekChoice, hu, hj, ite_self, Bool.false_eq_true, if_false]

theorem State.urgent_congr {s t : State} (hs : t.stream = s.stream) (hc : t.cfg = s.cfg) : t.urgent = s.urgent := by
  unfold State.urgent
  rw [hs, hc]

theorem State.unfilledStreamJob_congr {s t : State} (hj : t.jobs = s.jobs) : t.unfilledStreamJob = s.unfilledStreamJob := by
  unfold State.unfilledStreamJob
  rw [hj]

/-- The head UNPOSITIONED, before its seek choice. -/
def State.unpositioned (s : State) : State :=
  s.withPlanner { s.planner with head := .unpositioned, current := none, target := none, plan := none }

theorem State.becomeUnpositioned_eq (s : State) : s.becomeUnpositioned = s.unpositioned.seekChoice := rfl

/-- With no target left from before, the head that becomes UNPOSITIONED makes the seek choice. -/
theorem State.becomeUnpositioned_chooses {s : State} (ht : s.planner.target = none) :
    ChoosesSeek s s.becomeUnpositioned := by
  have jobs : s.unpositioned.seekChoice.jobs = s.unpositioned.jobs := by simp
  have urgent : s.unpositioned.seekChoice.urgent = s.unpositioned.urgent := State.urgent_congr (by simp) (by simp)
  have unfilled := State.unfilledStreamJob_congr jobs
  have seeks {d : Nat} (h : s.unpositioned.seekChoice = s.unpositioned.issueSeek d) :
      Seeks s s.unpositioned.seekChoice d ∧ FlipsWithSeek s s.unpositioned.seekChoice d := by
    refine ⟨⟨?_, ?_⟩, .of_issueSeek (u := s.unpositioned) rfl (congrArg State.magnet h) jobs⟩ <;> rw [h]
    · simp [State.unpositioned]
    · simp [State.unpositioned, ht]
  rw [State.becomeUnpositioned_eq]
  constructor
  case urgent =>
    rw [urgent, unfilled]
    exact fun j hu hj => seeks (State.seekChoice_of_urgent hu hj)
  case oldest =>
    rw [urgent, unfilled, jobs]
    exact fun j hu hj => seeks (State.seekChoice_of_workable hu hj)
  case none =>
    rw [urgent, unfilled, jobs]
    intro hu hj
    rw [State.seekChoice_of_idle hu hj]
    exact ⟨rfl, rfl, rfl⟩
  case sweep =>
    rcases s.unpositioned.seekChoice_cases with h | ⟨d, h⟩ <;> rw [h]
    · rfl
    · simp [State.unpositioned]

/-! ### Seek done (R67 to R69) -/

/-- Settles O40, by the head state. -/
theorem seekDoneByHeadState : Obligations.SeekDoneByHeadState := by
  intro s hq
  have done : exec .seekDone s = .next s.seekEnds := onEvent_of_quiet hq _
  have fault : exec .seekFault s = .next s.seekFails := onEvent_of_quiet hq _
  rw [done, fault]
  refine ⟨fun hh => ?_, fun hh ht => ?_, fun track hh ht => ?_, fun hs hr => ?_⟩
  · simp only [State.seekEnds, hh]
    rfl
  · simp only [State.seekEnds, hh, State.withPlanner_planner, ht]
    rfl
  · let u := s.withPlanner { s.planner with recalTimer := false }
    have eq : s.seekEnds = u.issueSeek track := by
      simp only [State.seekEnds, hh, State.withPlanner_planner, ht, u]
    rw [eq]
    refine ⟨_, rfl, ?_, by simp [u], .of_issueSeek (u := u) rfl rfl (by simp), ?_⟩
    · simp [u, ht]
    · simp [u]
  · cases hh : s.planner.head with
    | seeking => exact absurd hh hs
    | recalibrating => exact absurd hh hr
    | stopped | unpositioned | settled | revolving | refocusing =>
      simp only [State.seekEnds, State.seekFails, hh, and_self]

end Sys2Proof.Machine

/-! # Chapter 5: cut-offs, and the disturbances of the head

A cut-off closes the open action and puts its job back to NEED ERASE where it was gated; the kill latch adds the latch to
that, and an off-track event the seek. -/

namespace Sys2Proof.Machine

/-! ### Cut-offs (R99, R106) -/

/-- Apart from the open action and its job a cut-off changes nothing. -/
theorem State.cutOff_eq (s : State) :
    s.cutOff = { s with seq := { s.seq with openAction := none }, jobs := cutOffJobs s } := by
  unfold State.cutOff cutOffJobs
  cases ho : s.seq.openAction with
  | none =>
    have closed : { s.seq with openAction := none } = s.seq := by rw [← ho]
    simp only [closed]
  | some o =>
    obtain ⟨sector, action, job, gated⟩ := o
    cases gated <;> cases job <;> rfl

theorem State.setLatch_eq (s : State) :
    s.setLatch = { s with seq := { s.seq with killLatch := true, openAction := none }, jobs := cutOffJobs s } := by
  rw [State.setLatch, State.cutOff_eq]
  rfl

theorem cutOffJobs_of_closed {s : State} (h : s.seq.openAction = none) : cutOffJobs s = s.jobs := by
  simp only [cutOffJobs, h]

/-! ### Off-track events (R86, R106, R108) -/

theorem Action.mutates_iff {a : Action} : a.mutates = true ↔ a.polarity ≠ none := Option.isSome_iff_ne_none

theorem State.shockDue_iff {s : State} : s.shockDue = true ↔
    (∃ o, s.seq.openAction = some o ∧ o.action.polarity ≠ none) ∨
      ∃ p a, s.planner.plan = some p ∧ a ∈ p.actions ∧ a.action.polarity ≠ none ∧ s.seq.position ≤ a.sector := by
  rw [State.shockDue, Bool.or_eq_true]
  refine or_congr ?_ ?_
  · cases s.seq.openAction <;> simp [Action.mutates_iff]
  · cases s.planner.plan <;> simp [Action.mutates_iff]

/-- A kill latch that is set keeps the laser OFF (R91). -/
theorem State.laser_of_latch {s : State} (h : s.seq.killLatch = true) : s.laser = .off := by
  simp [State.laser, h]

/-- What an off-track event on a track does: SHOCK where it is due, the latch with its cut-off, and the seek back with its
flip check. -/
structure GoesOffTrack (s t : State) (track : Nat) : Prop where
  seq        : t.seq = { s.seq with killLatch := true, openAction := none }
  jobs       : t.jobs = cutOffJobs s
  planner    : t.planner.head = .seeking ∧ t.planner.target = some track ∧ t.planner.current = none ∧
    t.planner.plan = none ∧ t.planner.seekTimer = true
  emitted    : t.emitted = s.emitted ++ [.seek track]
  flips      : FlipsWithSeek s t track
  conditions : t.conditions = (if s.shockDue then s.raise .shock else s).conditions
  rest       : t.sup = s.sup ∧ t.requests = s.requests ∧ t.remap = s.remap ∧ t.stream = s.stream

theorem State.offTrackOn_goesOffTrack (s : State) (track : Nat) : GoesOffTrack s (s.offTrackOn track) track := by
  obtain ⟨c, hc, eq⟩ : ∃ c, c = (if s.shockDue then s.raise .shock else s).conditions ∧
      s.offTrackOn track = (s.withConditions c).setLatch.issueSeek track := by
    refine ⟨_, rfl, ?_⟩
    unfold State.offTrackOn State.raise
    repeat' split
    all_goals rfl
  rw [eq]
  constructor
  case flips => exact .of_issueSeek (u := (s.withConditions c).setLatch) (by simp) rfl (by simp)
  case conditions => simpa using hc
  all_goals simp [State.setLatch_eq]
  rfl

/-- The latch that an off-track event sets turns the laser OFF. -/
theorem GoesOffTrack.laser {s t : State} {track : Nat} (h : GoesOffTrack s t track) : t.laser = .off :=
  State.laser_of_latch (by rw [h.seq])

theorem State.offTrackEvent_of_onTrack {s : State} {track : Nat}
    (hh : s.planner.head = .settled ∨ s.planner.head = .revolving) (hc : s.planner.current = some track) :
    s.offTrackEvent = s.offTrackOn track := by
  rcases hh with hh | hh <;> simp only [State.offTrackEvent, hh, hc]

theorem State.offTrackEvent_of_not_onTrack {s : State} (hs : s.planner.head ≠ .settled) (hr : s.planner.head ≠ .revolving) :
    s.offTrackEvent = s := by
  unfold State.offTrackEvent
  split
  next hh _ => exact absurd hh hs
  next hh _ => exact absurd hh hr
  next => rfl

/-! ### Focus lost and regained (R87, R109) -/

theorem State.focusLostEvent_eq {s : State} (hs : s.planner.head ≠ .stopped) (hr : s.planner.head ≠ .refocusing) :
    s.focusLostEvent = { s with
      seq := { s.seq with killLatch := true, openAction := none, refocusTimer := true }
      planner := { s.planner with head := .refocusing, seekTimer := false, recalTimer := false, plan := none }
      jobs := cutOffJobs s } := by
  unfold State.focusLostEvent
  split
  next hh => exact absurd hh hs
  next hh => exact absurd hh hr
  all_goals
    rw [State.setLatch_eq]
    rfl

theorem State.focusLostEvent_ignored {s : State} (hh : s.planner.head = .stopped ∨ s.planner.head = .refocusing) :
    s.focusLostEvent = s := by
  rcases hh with hh | hh <;> simp only [State.focusLostEvent, hh]

/-- Focus is back: the refocus timer is stopped. -/
def State.focused (s : State) : State := s.withSeq { s.seq with refocusTimer := false }

theorem State.focusRegainedEvent_of_track {s : State} {track : Nat} (hh : s.planner.head = .refocusing)
    (ht : s.planner.target = some track ∨ (s.planner.target = none ∧ s.planner.current = some track)) :
    s.focusRegainedEvent = s.focused.issueSeek track := by
  rcases ht with ht | ⟨ht, hc⟩
  · simp [State.focusRegainedEvent, hh, ht, State.focused]
  · simp [State.focusRegainedEvent, hh, ht, hc, State.focused]

theorem State.focusRegainedEvent_of_none {s : State} (hh : s.planner.head = .refocusing)
    (ht : s.planner.target = none) (hc : s.planner.current = none) :
    s.focusRegainedEvent = s.focused.becomeUnpositioned := by
  simp [State.focusRegainedEvent, hh, ht, hc, State.focused]

theorem State.becomeUnpositioned_head (s : State) :
    s.becomeUnpositioned.planner.head = .unpositioned ∨ s.becomeUnpositioned.planner.head = .seeking := by
  rw [State.becomeUnpositioned_eq]
  rcases s.unpositioned.seekChoice_cases with h | ⟨d, h⟩ <;> rw [h]
  · exact .inl rfl
  · simp

/-- Settles O42: an off-track event is `State.offTrackOn`, losing focus sets the latch, and regaining it seeks or leaves the head
to its seek choice. -/
theorem disturbancesOfTheHead : Obligations.DisturbancesOfTheHead := by
  refine ⟨fun s hq => ?offTrack, fun s hq => ?focus⟩
  case offTrack =>
    have event : exec .offTrack s = .next s.offTrackEvent := onEvent_of_quiet hq _
    rw [event]
    refine ⟨fun track hh hc => ⟨_, rfl, ?_⟩, fun hs hr => by rw [State.offTrackEvent_of_not_onTrack hs hr]⟩
    rw [State.offTrackEvent_of_onTrack hh hc]
    have off := s.offTrackOn_goesOffTrack track
    obtain ⟨head, target, current, plan, timer⟩ := off.planner
    refine ⟨off.seq, off.jobs, head, target, current, plan, timer, off.emitted, off.flips, fun due => ?_,
      fun open_ planned => ?_, off.laser, off.rest⟩
    · rw [off.conditions, if_pos (State.shockDue_iff.mpr due)]
    · rw [off.conditions, if_neg]
      rw [State.shockDue_iff]
      rintro (⟨o, ho, hm⟩ | ⟨p, a, hp, ha, hm, hk⟩)
      · exact hm (open_ o ho)
      · exact absurd (planned p a hp ha hm) (by omega)
  case focus =>
    have lost : exec .focusLost s = .next s.focusLostEvent := onEvent_of_quiet hq _
    have regained : exec .focusRegained s = .next s.focusRegainedEvent := onEvent_of_quiet hq _
    rw [lost, regained]
    refine ⟨fun hs hr => by rw [State.focusLostEvent_eq hs hr], fun hh => by rw [State.focusLostEvent_ignored hh],
      fun hh => by rw [State.focusRegainedEvent, if_neg hh], fun track hh ht => ⟨_, rfl, ?_⟩,
      fun hh ht hc => ⟨_, rfl, ?_⟩⟩
    · rw [State.focusRegainedEvent_of_track hh ht]
      refine ⟨by simp [State.focused], by simp, by simp, by simp, by simp [State.focused],
        .of_issueSeek (u := s.focused) rfl rfl (by simp), by simp [State.focused], fun ht => ?_⟩
      simp [State.focused, ht]
    · rw [State.focusRegainedEvent_of_none hh ht hc]
      refine ⟨by simp [State.focused], s.focused.becomeUnpositioned_head, by simp [State.focused], ?_⟩
      exact State.becomeUnpositioned_chooses (s := s.focused) ht

end Sys2Proof.Machine

/-! # Chapter 5: the laser and the sector mark

A mark cuts off what is open, deals with the action planned for its sector, and counts the sector. What it does with the
action is said by the header's class: open it, an ID failure, or off track. -/

namespace Sys2Proof.Machine

/-! ### The laser (R90, R91, R133) -/

theorem Mount.indexed_iff {m : Mount} :
    m.indexed = true ↔ m = .mapping ∨ m = .ready ∨ m = .unmounting ∨ m = .flushing := by
  cases m <;> simp [Mount.indexed]

theorem State.laser_off {s : State} (h : s.sup.mount.indexed = false ∨ s.seq.killLatch = true) : s.laser = .off := by
  rcases h with h | h
  · simp [State.laser, h]
  · exact State.laser_of_latch h

theorem State.laser_gated {s : State} {o : OpenAction} (hm : s.sup.mount.indexed = true) (hl : s.seq.killLatch = false)
    (ho : s.seq.openAction = some o) (hg : o.gated = true) :
    (o.action = .erase → s.laser = .erase) ∧ (o.action = .write → s.laser = .write) := by
  refine ⟨fun ha => ?_, fun ha => ?_⟩ <;> simp [State.laser, hm, hl, ho, hg, ha]

theorem State.laser_read {s : State} (hm : s.sup.mount.indexed = true) (hl : s.seq.killLatch = false)
    (ho : ∀ o, s.seq.openAction = some o → o.gated = false ∨ (o.action ≠ .erase ∧ o.action ≠ .write)) :
    s.laser = .read := by
  cases h : s.seq.openAction with
  | none => simp [State.laser, hm, hl, h]
  | some o =>
    rcases ho o h with hg | ⟨he, hw⟩
    · simp [State.laser, hm, hl, h, hg]
    · cases ha : o.action <;> simp_all [State.laser]

/-! ### The mark and the header's class (R7, R92, R93) -/

/-- The sector k has been counted. -/
def State.marked (k : Nat) (s : State) : State := s.withSeq { s.seq with position := k + 1 }

theorem State.sectorMark_ignored {s : State} (h : s.planner.head ≠ .revolving) (header : Option Psa) :
    s.sectorMark header = s := by
  unfold State.sectorMark
  split
  next hh _ => exact absurd hh h
  next => rfl

/-- A mark of a planned revolution, by the sector it counts: past the track's end, unplanned, or planned. -/
theorem State.sectorMark_eq {s : State} {p : Plan} (hh : s.planner.head = .revolving) (hp : s.planner.plan = some p)
    (header : Option Psa) :
    (trackSectors p.track ≤ s.seq.position → s.sectorMark header = s.cutOff) ∧
    (s.seq.position < trackSectors p.track → (∀ a ∈ p.actions, a.sector ≠ s.seq.position) →
      s.sectorMark header = s.cutOff.marked s.seq.position) ∧
    (∀ a, s.seq.position < trackSectors p.track → p.actions.find? (fun b => b.sector == s.seq.position) = some a →
      s.sectorMark header = (s.cutOff.takeMark header p.track a).marked s.seq.position) := by
  have position : s.cutOff.seq.position = s.seq.position := by rw [State.cutOff_eq]
  have planned : s.cutOff.plannedAt s.seq.position = p.actions.find? fun b => b.sector == s.seq.position := by
    simp [State.plannedAt, hp]
  simp only [State.sectorMark, hh, hp, position, planned]
  refine ⟨fun hk => if_neg (by omega), fun hk ha => ?_, fun a hk ha => ?_⟩
  · have none : (p.actions.find? fun b => b.sector == s.seq.position) = none := by simpa using ha
    rw [if_pos hk, none]
    rfl
  · rw [if_pos hk, ha]
    rfl

theorem classify_self {t k : Nat} (h : (⟨t, k⟩ : Psa).valid = true) : classify (some ⟨t, k⟩) t k = .matches := by
  simp [classify, h]

theorem classify_of_otherTrack {q : Psa} {t k : Nat} (hv : q.valid = true) (ht : q.track ≠ t) :
    classify (some q) t k = .otherTrack := by
  simp [classify, hv, ht]

theorem classify_of_idError {header : Option Psa} {t k : Nat}
    (h : ∀ q, header = some q → q.valid = true → q.track = t ∧ q.sector ≠ k) : classify header t k = .idError := by
  cases header with
  | none => rfl
  | some q =>
    cases hv : q.valid with
    | false => simp [classify, hv]
    | true =>
      obtain ⟨ht, hk⟩ := h q rfl hv
      simp [classify, hv, ht, hk]

/-! ### A MATCH mark (R96, R97) -/

theorem State.sendData_eq (s : State) (a : Planned) :
    s.sendData a = { s with emitted := s.emitted ++ s.writtenData a } := by
  have nothing : s = { s with emitted := s.emitted ++ [] } := by rw [List.append_nil]
  unfold State.sendData State.writtenData
  cases a.action with
  | write =>
    cases hj : s.job? a.job with
    | none => exact nothing
    | some j =>
      cases hs : j.slot with
      | none => simp [hs]
      | some slot => simp [hs, State.emit, State.withEmitted, State.slotBytes]
  | erase | read | verify | blankCheck => exact nothing

theorem State.gateOpen_iff {s : State} {a : Action} :
    s.gateOpen a = true ↔ s.magnet.settled = a.polarity ∧ s.seq.killLatch = false ∧ s.sup.inhibit = [] := by
  simp [State.gateOpen, and_assoc]

/-- A planned action with a MATCH header: a mutating one is gated where the gate is open and skipped otherwise; another is
opened as it is. -/
theorem State.openPlanned_eq (s : State) (a : Planned) :
    (a.action.polarity ≠ none → s.gateOpen a.action = true → s.openPlanned a = { s with
      seq := { s.seq with
        openAction := some { sector := a.sector, action := a.action, job := some a.job, gated := true } }
      jobs := s.jobs.map fun j : Job => if j.id = a.job then { j with touched := true } else j
      emitted := s.emitted ++ s.writtenData a }) ∧
    (a.action.polarity ≠ none → s.gateOpen a.action = false → s.openPlanned a = s) ∧
    (a.action.polarity = none → s.openPlanned a = { s with seq := { s.seq with
      openAction := some { sector := a.sector, action := a.action, job := some a.job, gated := false } } }) := by
  unfold State.openPlanned
  refine ⟨fun hm hg => ?_, fun hm hg => ?_, fun hm => ?_⟩
  · rw [if_pos (Action.mutates_iff.mpr hm), if_pos hg, State.sendData_eq]
    rfl
  · rw [if_pos (Action.mutates_iff.mpr hm), if_neg (by simp [hg])]
  · rw [if_neg (by simp [Action.mutates_iff, hm])]
    rfl

/-! ### An ID error (R94) -/

theorem State.idFailure_of_left {s : State} {j : Job} (hi : j.idFailures < 3) :
    (j.kind.writeType = true →
      s.idFailure j = s.updateJob j.id fun _ => { j with idFailures := j.idFailures + 1 }) ∧
    (j.kind.writeType = false → 1 < j.attempts → s.idFailure j =
      s.updateJob j.id fun _ => { j with attempts := j.attempts - 1, idFailures := j.idFailures + 1 }) := by
  have left : ¬4 ≤ j.idFailures + 1 := by omega
  refine ⟨fun hk => ?_, fun hk ha => ?_⟩
  · simp only [State.idFailure, hk, left, if_true, if_false]
  · have some : ¬j.attempts - 1 = 0 := by omega
    simp [State.idFailure, State.failedAttempt, hk, left, some]

/-- The fourth ID failure of a write-type job reassigns it, or ends a MAP WRITE FAILED. -/
theorem State.idFailure_of_fourth {s : State} {j : Job} (hk : j.kind.writeType = true) (hi : 3 ≤ j.idFailures) :
    s.idFailure j =
      if j.kind = .mapWrite then s.endJob j (.failed .idNotFound)
      else (s.updateJob j.id fun _ => { j with idFailures := j.idFailures + 1 }).reassign j.id := by
  have fourth : 4 ≤ j.idFailures + 1 := by omega
  simp only [State.idFailure, hk, fourth, if_true]
  split
  · exact State.endJob_updateJob s { j with idFailures := j.idFailures + 1 } _ (fun _ _ => rfl) _
  · rfl

/-- A read ends FAILED with its last attempt or its fourth ID failure. -/
theorem State.idFailure_of_last {s : State} {j : Job} (hk : j.kind.writeType = false)
    (hl : j.attempts ≤ 1 ∨ 3 ≤ j.idFailures) : s.idFailure j = s.endJob j (.failed .idNotFound) := by
  have last : j.attempts - 1 = 0 ∨ (true = true ∧ 4 ≤ j.idFailures + 1) :=
    hl.imp (by omega) fun h => ⟨rfl, by omega⟩
  rw [State.idFailure, if_neg (by simp [hk])]
  refine (if_pos last).trans ?_
  exact State.endJob_updateJob s { j with attempts := j.attempts - 1, idFailures := j.idFailures + 1 } _ (fun _ _ => rfl) _

theorem State.reassign_seq {s : State} (h : s.seq.openAction = none) (id : JobId) : (s.reassign id).seq = s.seq := by
  unfold State.reassign
  dsimp only
  repeat' split
  all_goals simp [State.endJob_seq, h]

/-! ### What the mark leaves besides (R92) -/

theorem cutOffJobs_ids (s : State) : (cutOffJobs s).map Job.id = s.jobs.map Job.id := by
  unfold cutOffJobs
  split
  · exact State.updateJob_ids _ _ s fun _ => rfl
  · rfl

theorem LeavesTable.marked {s t : State} {j : Job} (h : LeavesTable s t j) (k : Nat) : LeavesTable s (t.marked k) j :=
  ⟨h.ids, h.others, h.held, h.plan⟩

theorem RequestCounts.marked {s t : State} {link : Link} {tag : Nat} {count : Request → Request}
    (h : RequestCounts s t link tag count) (k : Nat) : RequestCounts s (t.marked k) link tag count :=
  ⟨h.others, h.goesOn, h.ends⟩

theorem ReadFails.marked {s t : State} {j : Job} {reason : Reason} (h : ReadFails s t j reason) (k : Nat) :
    ReadFails s (t.marked k) j reason where
  left := h.left.marked k
  host := fun tag hk ho => ⟨(h.host tag hk ho).1.marked k, (h.host tag hk ho).2⟩
  stream := h.stream
  orphan := h.orphan
  map := h.map

theorem MapWriteEnds.marked {s t : State} {f : FlushContext} {j : Job} {result : FlushSector}
    (h : MapWriteEnds s t f j result) (k : Nat) : MapWriteEnds s (t.marked k) f j result where
  left := h.left.marked k
  pool := h.pool
  flush := h.flush
  request := h.request
  rest := h.rest

theorem FlipsWithSeek.marked {s t : State} {track : Nat} (h : FlipsWithSeek s t track) (k : Nat) :
    FlipsWithSeek s (t.marked k) track := ⟨h.turned, h.kept⟩

/-- Settles O43: the laser by its cases; a mark by the sector it counts and, where an action is planned, by the class of its
header. -/
theorem sectorMarkGatesTheLaser : Obligations.SectorMarkGatesTheLaser := by
  refine ⟨?laser, fun header s hq hn => ?mark⟩
  case laser =>
    intro s up
    have isUp : s.sup.mount.indexed = true ↔ up := Mount.indexed_iff
    refine ⟨fun h => ?_, fun o hu hl ho hg => ?_, fun hu hl ho => ?_⟩
    · have off := State.laser_off (s := s) (h.imp_left fun hu => Bool.eq_false_iff.mpr (mt isUp.mp hu))
      exact ⟨off, by rw [State.laserCode, off]⟩
    · obtain ⟨erases, writes⟩ := State.laser_gated (isUp.mpr hu) hl ho hg
      exact ⟨fun ha => ⟨erases ha, by rw [State.laserCode, erases ha]⟩, fun ha => ⟨writes ha, by rw [State.laserCode, writes ha]⟩⟩
    · have read := State.laser_read (isUp.mpr hu) hl ho
      exact ⟨read, by rw [State.laserCode, read]⟩
  have event : exec (.sectorMark header) s = .next (s.sectorMark header) := onEvent_of_quiet hq _
  rw [event]
  refine ⟨fun hh => by rw [State.sectorMark_ignored hh], ?_⟩
  intro p hh hp ht k cut counted
  obtain ⟨beyond, unplanned, planned⟩ := State.sectorMark_eq hh hp header
  have cutEq : s.cutOff = cut := s.cutOff_eq
  rw [cutEq] at beyond unplanned planned
  refine ⟨fun hk => by rw [beyond hk], fun hk ha => by rw [unplanned hk ha]; rfl, fun a hk ha => ?_⟩
  rw [planned a hk ha]
  have sector : a.sector = k := by simpa using List.find?_some ha
  refine ⟨fun hmatch => ?atMatch, fun q hqh hqv hqt => ?otherTrack, fun j hid hj => ?idError⟩
  case atMatch =>
    have valid : (⟨p.track, k⟩ : Psa).valid = true := by
      simp only [Psa.valid, Bool.and_eq_true, decide_eq_true_eq]
      exact ⟨ht, hk⟩
    have opens : cut.takeMark header p.track a = cut.openPlanned a := by
      simp only [State.takeMark, sector, hmatch, classify_self valid]
    obtain ⟨gates, skips, opensRead⟩ := cut.openPlanned_eq a
    rw [opens]
    refine ⟨fun q hpol hset hlatch hinh => ?_, fun q hpol hshut => ?_, fun hpol => ?_⟩
    · rw [gates (by simp [hpol]) (State.gateOpen_iff.mpr ⟨hset.trans hpol.symm, hlatch, hinh⟩), sector]
      rfl
    · rw [skips (by simp [hpol])]
      · rfl
      · refine Bool.eq_false_iff.mpr fun hg => ?_
        obtain ⟨hset, hlatch, hinh⟩ := State.gateOpen_iff.mp hg
        rcases hshut with h | h | h
        · exact h (hset.trans hpol)
        · exact absurd (hlatch.symm.trans h) (by simp)
        · exact h hinh
    · rw [opensRead hpol, sector]
      rfl
  case otherTrack =>
    have goes : cut.takeMark header p.track a = cut.offTrackOn p.track := by
      simp only [State.takeMark, hqh, classify_of_otherTrack hqv hqt]
    rw [goes]
    have off := cut.offTrackOn_goesOffTrack p.track
    obtain ⟨head, target, current, plan, timer⟩ := off.planner
    have due : cut.shockDue = true ↔ ∃ b ∈ p.actions, b.action.polarity ≠ none ∧ k ≤ b.sector := by
      rw [State.shockDue_iff]
      constructor
      · rintro (⟨o, ho, -⟩ | ⟨p', b, hp', hb⟩)
        · exact absurd ho (by simp [cut])
        · obtain rfl : p = p' := Option.some.inj (hp.symm.trans hp')
          exact ⟨b, hb⟩
      · rintro ⟨b, hb⟩
        exact .inr ⟨p, b, hp, hb⟩
    refine ⟨_, rfl, ?_, off.jobs.trans (cutOffJobs_of_closed rfl), head, target, current, plan, timer, off.emitted,
      ⟨(off.flips.marked k).turned, (off.flips.marked k).kept⟩, off.conditions.trans ?_, State.laser_of_latch ?_, off.rest⟩
    · rw [State.marked, State.withSeq_seq, off.seq]
    · by_cases shock : ∃ b ∈ p.actions, b.action.polarity ≠ none ∧ k ≤ b.sector
      · rw [if_pos (due.mpr shock), if_pos shock, State.raise_conditions, State.raise_conditions]
      · rw [if_neg (mt due.mp shock), if_neg shock]
    · rw [State.marked, State.withSeq_seq, off.seq]
  case idError =>
    have fails : cut.takeMark header p.track a = cut.idFailure j := by
      simp only [State.takeMark, sector, classify_of_idError hid, hj]
    rw [fails]
    have closed : cut.seq.openAction = none := rfl
    have ids : (cut.jobs.map Job.id).Nodup := by rwa [show cut.jobs = cutOffJobs s from rfl, cutOffJobs_ids]
    have ends (e : Ending) : ((cut.endJob j e).marked k).seq = counted.seq := by
      rw [State.marked, State.withSeq_seq, State.endJob_seq closed]
    intro counts
    refine ⟨fun hk hi => ?_, fun hk hmap hi => ?_, fun f hmap hi hf hlen hw => ?_, fun hk ha hi => ?_, fun hk hl => ?_⟩
    · rw [(State.idFailure_of_left hi).1 hk]
      rfl
    · have seq := State.reassign_seq (s := cut.updateJob j.id fun _ => { j with idFailures := j.idFailures + 1 }) closed j.id
      rw [State.idFailure_of_fourth hk hi, if_neg hmap, State.marked, seq]
      rfl
    · have writes : j.kind.writeType = true := by rw [hmap]; rfl
      rw [State.idFailure_of_fourth writes hi, if_pos hmap]
      have map := State.endWrite_map (s := cut) ids hmap hf hlen hw (e := .failed .idNotFound) (.inl ⟨_, rfl⟩)
      rw [← show cut.endJob j (.failed .idNotFound) = cut.endWrite j (.failed .idNotFound) from if_pos writes] at map
      exact ⟨_, rfl, map.marked k, ends _⟩
    · rw [(State.idFailure_of_left hi).2 hk ha]
      rfl
    · rw [State.idFailure_of_last hk hl]
      have read := State.endRead_failed (s := cut) ids j .idNotFound
      rw [← show cut.endJob j (.failed .idNotFound) = cut.endRead j (.failed .idNotFound) from if_neg (by simp [hk])] at read
      exact ⟨_, rfl, read.marked k, ends _⟩

end Sys2Proof.Machine

/-! # Chapter 7: the setpoints at an index

A recomputation touches the entry of its own kind and the sticky flags, and raises POWER LIMITS exactly where it sets one of
them; an index that begins a revolution makes three of them, on the zone of the plan it has just made. -/

namespace Sys2Proof.Machine

/-! ### The calculator's entries -/

theorem Power.get_set (p : Power) (k l : SetKind) (x : PowerKind) : (p.set k x).get l = if l = k then x else p.get l := by
  cases k <;> cases l <;> rfl

@[simp] theorem Power.get_sticky (p : Power) (y : Sticky) (k : SetKind) : { p with sticky := y }.get k = p.get k := by
  cases k <;> rfl

@[simp] theorem Power.get_mapKinds (f : PowerKind → PowerKind) (p : Power) (k : SetKind) :
    (p.mapKinds f).get k = f (p.get k) := by
  cases k <;> rfl

/-! ### One recomputation (R134, R135) -/

/-- An entry after the recomputation it is due: none where its key stands (R134). -/
def PowerKind.refreshed (zone : Nat) (temp : TempInput) (x : PowerKind) : PowerKind :=
  let key := x.keyFor zone temp
  { x with key := some key, code := if x.key ≠ some key then (compute x.active zone temp).code else x.code }

/-- The flags of the recomputation an entry is due, read one by one (R134, R135). -/
def PowerKind.dueFlag (zone : Nat) (temp : TempInput) (x : PowerKind) (flag : Flags → Bool) : Bool :=
  decide (x.key ≠ some (x.keyFor zone temp)) && flag (compute x.active zone temp).flags

/-- The sticky flags with those of the recomputation an entry is due (R135). -/
def Sticky.take (y : Sticky) (flag : (Flags → Bool) → Bool) : Sticky :=
  { ovf := y.ovf || flag Flags.ovf, limLow := y.limLow || flag Flags.limLow
    limHigh := y.limHigh || flag Flags.limHigh, stale := y.stale || flag Flags.stale }

theorem Sticky.take_take (y : Sticky) (f g : (Flags → Bool) → Bool) :
    (y.take f).take g = y.take fun flag => f flag || g flag := by
  simp only [Sticky.take, Bool.or_assoc]

/-- A flag once set stays set, so a later computation does not undo what an earlier one did (R135). -/
theorem Sticky.take_eq_of_take_take {y : Sticky} {f g : (Flags → Bool) → Bool} (h : (y.take f).take g = y) :
    y.take f = y := by
  obtain ⟨ovf, low, high, stale⟩ := y
  simp only [Sticky.take, Sticky.mk.injEq, Bool.or_eq_left_iff_imp] at h ⊢
  grind

theorem State.recompute_get (zone : Nat) (k l : SetKind) (s : State) :
    (s.recompute zone k).power.get l =
      if l = k then (s.power.get k).refreshed zone s.tempInput else s.power.get l := by
  unfold State.recompute PowerKind.refreshed
  dsimp only
  split
  next h =>
    rw [if_neg (not_not.mpr h), ← h]
    exact (ite_eq_right_iff.mpr fun e => e ▸ rfl).symm
  next h => split <;> simp [Power.get_set]

theorem State.recompute_sticky (zone : Nat) (k : SetKind) (s : State) :
    (s.recompute zone k).power.sticky = s.power.sticky.take ((s.power.get k).dueFlag zone s.tempInput) := by
  unfold State.recompute
  dsimp only
  split
  next h => simp [Sticky.take, PowerKind.dueFlag, h]
  next h => split <;> simp [Sticky.take, Sticky.join, PowerKind.dueFlag, h]

@[simp] theorem State.recompute_tempInput (zone : Nat) (k : SetKind) (s : State) :
    (s.recompute zone k).tempInput = s.tempInput := by
  simp [State.tempInput]

/-- Between two states sticky flags are set and not cleared, and POWER LIMITS is raised exactly where one is set (R135). -/
structure RaisesLimits (s t : State) : Prop where
  sets   : ∃ f, t.power.sticky = s.power.sticky.take f
  raises : .powerLimits ∈ t.conditions ↔ .powerLimits ∈ s.conditions ∨ t.power.sticky ≠ s.power.sticky

theorem RaisesLimits.trans {s t u : State} (h : RaisesLimits s t) (k : RaisesLimits t u) : RaisesLimits s u := by
  obtain ⟨⟨f, hf⟩, hraised⟩ := h
  obtain ⟨⟨g, hg⟩, kraised⟩ := k
  refine ⟨⟨_, by rw [hg, hf, Sticky.take_take]⟩, ?_⟩
  have keeps (e : u.power.sticky = s.power.sticky) : t.power.sticky = s.power.sticky :=
    hf.trans (Sticky.take_eq_of_take_take (hf ▸ hg ▸ e))
  by_cases e : t.power.sticky = s.power.sticky
  · rw [kraised, hraised, e]
    simp
  · have changed := mt keeps e
    simp [kraised, hraised, e, changed]

theorem State.recompute_raisesLimits (zone : Nat) (k : SetKind) (s : State) : RaisesLimits s (s.recompute zone k) := by
  refine ⟨⟨_, s.recompute_sticky zone k⟩, ?_⟩
  unfold State.recompute
  dsimp only
  split
  · simp
  · split
    next h => simp [h]
    next h => simp [State.mem_raise, h]

/-! ### The index that begins a revolution (R127, R134) -/

theorem State.powerAtRevolution_get (zone : Nat) (s : State) (k : SetKind) :
    (s.powerAtRevolution zone).power.get k = (s.power.get k).applySwitch.refreshed zone s.tempInput := by
  have switched : (s.withPower (s.power.mapKinds PowerKind.applySwitch)).tempInput = s.tempInput := rfl
  cases k <;> simp [State.powerAtRevolution, State.recompute_get, switched]

theorem State.powerAtRevolution_sticky (zone : Nat) (s : State) :
    (s.powerAtRevolution zone).power.sticky = s.power.sticky.take fun flag =>
      [SetKind.read, .erase, .write].any fun k => (s.power.get k).applySwitch.dueFlag zone s.tempInput flag := by
  have switched : (s.withPower (s.power.mapKinds PowerKind.applySwitch)).tempInput = s.tempInput := rfl
  have kept : (s.power.mapKinds PowerKind.applySwitch).sticky = s.power.sticky := rfl
  simp [State.powerAtRevolution, State.recompute_sticky, State.recompute_get, switched, kept, Sticky.take_take, Bool.or_assoc]

theorem State.powerAtRevolution_raisesLimits (zone : Nat) (s : State) : RaisesLimits s (s.powerAtRevolution zone) := by
  have switched : RaisesLimits s (s.withPower (s.power.mapKinds PowerKind.applySwitch)) :=
    ⟨⟨fun _ => false, by simp [Sticky.take, Power.mapKinds]⟩, by simp [Power.mapKinds]⟩
  exact ((switched.trans (State.recompute_raisesLimits ..)).trans (State.recompute_raisesLimits ..)).trans
    (State.recompute_raisesLimits ..)

/-! ### What the end of a job raises (R51, R53, R168) -/

/-- Whether a condition is none of those that the end of a job may raise: a page's sector that could not be read, a refresh
that failed, and one that was not made. -/
def Condition.besideJobs (c : Condition) : Bool := c != .streamDataError && c != .refreshFailed && c != .refreshDropped

@[simp] theorem State.raise_besideJobs {c : Condition} (hc : c.besideJobs = false) (s : State) :
    (s.raise c).conditions.filter Condition.besideJobs = s.conditions.filter Condition.besideJobs := by
  rw [State.raise_conditions]
  split <;> simp [hc]

@[simp] theorem State.ownerEnd_besideJobs (s : State) (j e) :
    (s.ownerEnd j e).conditions.filter Condition.besideJobs = s.conditions.filter Condition.besideJobs := by
  unfold State.ownerEnd
  repeat' split
  all_goals simp [Condition.besideJobs]

@[simp] theorem State.streamEnd_besideJobs (s : State) (j e) :
    (s.streamEnd j e).conditions.filter Condition.besideJobs = s.conditions.filter Condition.besideJobs := by
  unfold State.streamEnd
  dsimp only
  repeat' split
  all_goals simp [Condition.besideJobs]

@[simp] theorem State.askRefresh_besideJobs (s : State) (j) :
    (s.askRefresh j).conditions.filter Condition.besideJobs = s.conditions.filter Condition.besideJobs := by
  unfold State.askRefresh
  repeat' split
  all_goals simp [Condition.besideJobs]

@[simp] theorem State.deliver_besideJobs (s : State) (j e) :
    (s.deliver j e).conditions.filter Condition.besideJobs = s.conditions.filter Condition.besideJobs := by
  unfold State.deliver
  repeat' split
  all_goals simp

@[simp] theorem State.endRead_besideJobs (s : State) (j e) :
    (s.endRead j e).conditions.filter Condition.besideJobs = s.conditions.filter Condition.besideJobs := by
  simp [State.endRead]

@[simp] theorem State.serveHeld_besideJobs (s : State) (w copies id) :
    (s.serveHeld w copies id).conditions.filter Condition.besideJobs = s.conditions.filter Condition.besideJobs := by
  unfold State.serveHeld State.copyFrom
  repeat' split
  all_goals simp

@[simp] theorem State.endWrite_besideJobs (s : State) (j e) :
    (s.endWrite j e).conditions.filter Condition.besideJobs = s.conditions.filter Condition.besideJobs := by
  unfold State.endWrite
  repeat' split
  all_goals simp [foldl_keeps fun u : State => u.conditions.filter Condition.besideJobs]

@[simp] theorem State.endJob_besideJobs (s : State) (j e) :
    (s.endJob j e).conditions.filter Condition.besideJobs = s.conditions.filter Condition.besideJobs := by
  unfold State.endJob
  split <;> simp

@[simp] theorem State.endJobs_besideJobs (s : State) (pick e) :
    (s.endJobs pick e).conditions.filter Condition.besideJobs = s.conditions.filter Condition.besideJobs := by
  refine foldl_keeps (fun u : State => u.conditions.filter Condition.besideJobs) (fun u id => ?_) _ _
  unfold State.endJobId
  split <;> simp

/-! ### What the decision leaves to the calculator (R30, R56, R73, R178) -/

theorem State.secondStageEffect_besideJobs (s : State) :
    s.secondStageEffect.conditions.filter Condition.besideJobs = s.conditions.filter Condition.besideJobs := by
  unfold State.secondStageEffect
  dsimp only
  split <;> simp

/-- The cancels, the second stage and the orphan removal raise no other condition. -/
theorem State.indexJobs_besideJobs (s : State) :
    s.indexJobs.conditions.filter Condition.besideJobs = s.conditions.filter Condition.besideJobs := by
  unfold State.indexJobs
  dsimp only
  repeat' split
  all_goals simp [foldl_keeps fun u : State => u.conditions.filter Condition.besideJobs, State.secondStageEffect_besideJobs,
    State.cancelEffect, State.removeOrphans]

theorem State.indexJobs_rest (s : State) : s.indexJobs.sup.rest = s.sup.rest := by
  unfold State.indexJobs
  dsimp only
  repeat' split
  all_goals simp

/-- The state an index leaves to the calculator has the setpoints and the temperature it found, and a planner with a plan only
where the head is REVOLVING. -/
theorem State.indexDecision_keeps (s : State) (h : s.planner.Lawful) : ∃ u : State,
    s.indexSequencer.indexJobs.indexPlanner = u ∧ u.power = s.power ∧ u.tempInput = s.tempInput ∧
    (.powerLimits ∈ u.conditions ↔ .powerLimits ∈ s.conditions) ∧ u.planner.Lawful := by
  have sup : s.indexSequencer.indexJobs.indexPlanner.sup.rest = s.sup.rest := by simp [State.indexJobs_rest]
  have conditions := s.indexSequencer.indexJobs_besideJobs
  have keeps : KeepsMechanism s s.indexSequencer.indexJobs := .of_eq (by simp) (by simp)
  refine ⟨_, rfl, by simp, ?_, ?_, (keeps.trans (State.indexPlanner_keeps _)).planner h⟩
  · rw [State.tempInput, Supervisor.fields_of_rest sup]
    rfl
  · have mem := congrArg (Condition.powerLimits ∈ ·) conditions
    simpa [Condition.besideJobs] using mem

/-! ### The statement -/

/-- The switch of R127 in one record: the clamp is by the limits of the set that is active afterwards. -/
theorem PowerKind.applySwitch_eq (x : PowerKind) :
    let active := if x.switchPending then x.staged else x.active
    x.applySwitch = { x with
      switchPending := false
      active := active
      generation := if x.switchPending then x.generation + 1 else x.generation
      code := if x.switchPending then max active.pmin (min active.pmax x.code) else x.code } := by
  unfold PowerKind.applySwitch
  obtain ⟨staged, active, pending, generation, key, code⟩ := x
  cases pending <;> rfl

theorem State.indexPower_of_plan {s : State} (h : s.planner.Lawful) {p : Plan} (hp : s.planner.plan = some p) :
    s.indexPower = s.powerAtRevolution p.zone := by
  have hh : s.planner.head = .revolving := by
    unfold Planner.Lawful at h
    split at h <;> simp_all
  rw [State.indexPower, hh, hp]

theorem State.indexPower_of_none {s : State} (hp : s.planner.plan = none) : s.indexPower = s := by
  unfold State.indexPower
  split
  next h => cases hp.symm.trans h
  · rfl

/-- Settles O38: the plan that the decision leaves says whether a revolution begins, and in which zone. -/
theorem indexRecomputesTheSetpoints : Obligations.IndexRecomputesTheSetpoints := by
  intro s hq hm lawful
  obtain ⟨u, planned, power, temp, limits, hu⟩ := s.indexDecision_keeps lawful
  have event : exec .index s = .next u.indexPower := by
    rw [← planned]
    exact (onEvent_of_quiet hq _).trans (congrArg _ (if_neg hm))
  cases hp : u.planner.plan with
  | none =>
    refine ⟨u, by rw [event, State.indexPower_of_none hp], fun _ => power, ?_, fun p h => ?_⟩
    · simp [limits, power]
    · cases hp.symm.trans h
  | some p =>
    have raises := u.powerAtRevolution_raisesLimits p.zone
    refine ⟨u.powerAtRevolution p.zone, by rw [event, State.indexPower_of_plan hu hp], fun h => ?_, ?_, fun q hq => ?_⟩
    · simp [hp] at h
    · rw [raises.raises, limits, power]
    · obtain rfl : p = q := by simpa [hp] using hq
      have entry := u.powerAtRevolution_get p.zone
      have sticky := u.powerAtRevolution_sticky p.zone
      rw [power, temp] at entry sticky
      refine ⟨?_, fun k => ?_⟩
      · rw [sticky]
        simp only [entry, PowerKind.applySwitch_eq]
        rfl
      · simp only [entry, PowerKind.applySwitch_eq]
        exact ⟨rfl, rfl, rfl, rfl, rfl, rfl⟩

end Sys2Proof.Machine

/-! # Chapter 7: the computation, SET POWER and CALC

A computation is its accumulator and the quotient of it, rounded and clipped; the clamp set of a SET POWER is read bit by bit
off the list it is made of. -/

namespace Sys2Proof.Machine

/-! ### The accumulator (R130) -/

/-- The sum of a computation before saturation. -/
def Coefficients.exactSum (c : Coefficients) (zone : Nat) (delta : Int) : Int := (c.b : Int) * 256 + c.g * zone + c.k * delta

theorem satAdd_eq (acc addend : Int) :
    satAdd acc addend = (max (-8388608) (min 8388607 (acc + addend)),
      decide (acc + addend < -8388608 ∨ 8388607 < acc + addend)) := by
  unfold satAdd accMax accMin
  dsimp only
  split
  next =>
    simp only [Prod.mk.injEq, true_eq_decide_iff]
    omega
  next =>
    split <;> simp only [Prod.mk.injEq, true_eq_decide_iff, false_eq_decide_iff] <;> omega

/-- The zone term keeps the sum in range, so OVF is the temperature term's. -/
theorem accumulate_eq {c : Coefficients} {zone : Nat} (hb : c.b ≤ 1023) (hz : zone ≤ 15) (h1 : -32768 ≤ c.g)
    (h2 : c.g ≤ 32767) (delta : Int) :
    accumulate c zone delta = (max (-8388608) (min 8388607 (c.exactSum zone delta)),
      decide (c.exactSum zone delta < -8388608 ∨ 8388607 < c.exactSum zone delta)) := by
  have low : -32768 * 15 ≤ c.g * zone := by nlinarith
  have high : c.g * zone ≤ 32767 * 15 := by nlinarith
  have first : satAdd ((c.b : Int) * 256) (c.g * zone) = ((c.b : Int) * 256 + c.g * zone, false) := by
    simp only [satAdd_eq, Prod.mk.injEq, decide_eq_false_iff_not]
    omega
  simp only [accumulate, first, satAdd_eq, Bool.false_or]
  rfl

/-! ### The quotient (R131) -/

theorem scaled_nearest (acc : Int) : NearestEven acc (scaled .nearest acc) := by
  unfold NearestEven scaled
  dsimp only
  repeat' split
  all_goals omega

/-- The quotient of a 24-bit value, and that of either limit of the accumulator. -/
theorem scaled_bounds (mode : Rounding) {acc : Int} (h1 : -8388608 ≤ acc) (h2 : acc ≤ 8388607) :
    -32768 ≤ scaled mode acc ∧ scaled mode acc ≤ 32768 ∧
    (acc = 8388607 → 32767 ≤ scaled mode acc) ∧ (acc = -8388608 → scaled mode acc = -32768) := by
  cases mode with
  | nearest =>
    obtain ⟨above, below, -⟩ := scaled_nearest acc
    omega
  | truncate =>
    have eq : scaled .truncate acc = acc / 256 + if 0 ≤ acc ∨ 256 ∣ acc then 0 else 1 := Int.tdiv_eq_ediv
    rw [eq]
    split <;> omega

/-! ### Code and flags (R128, R129, R132) -/

theorem compute_limHigh {c : Coefficients} (h : c.pmin ≤ c.pmax) (zone : Nat) (t : TempInput) :
    (compute c zone t).flags.limHigh = decide ((c.pmax : Int) < scaled c.round (compute c zone t).acc) := by
  simp only [compute, Bool.and_eq_right_iff_imp, Bool.not_eq_true', decide_eq_true_eq, decide_eq_false_iff_not]
  omega

theorem compute_code {c : Coefficients} (h : c.pmin ≤ c.pmax) (zone : Nat) (t : TempInput) :
    ((compute c zone t).code : Int) = max (c.pmin : Int) (min c.pmax (scaled c.round (compute c zone t).acc)) := by
  simp only [compute, Bool.and_eq_true, Bool.not_eq_true', decide_eq_true_eq, decide_eq_false_iff_not]
  repeat' split
  all_goals omega

theorem tempDelta_eq (c : Coefficients) (t : TempInput) :
    let delta := t.value.getD c.thetaRef - c.thetaRef
    tempDelta c t = (if delta.natAbs ≤ c.d then 0 else delta, decide (delta.natAbs ≤ c.d)) := by
  unfold tempDelta
  dsimp only
  split
  next h => rw [decide_eq_true h]
  next h => rw [decide_eq_false h]

/-- Settles O49: the code is the quotient brought between the limits, and each limit flag says which of them it met. -/
theorem computationStaysWithinItsLimits : Obligations.ComputationStaysWithinItsLimits := by
  intro c zone temp hlim hb hz hg1 hg2 r theta delta sum
  have input : theta = temp.value.getD c.thetaRef := by
    simp only [theta]
    cases temp.value <;> rfl
  have td : tempDelta c temp = (delta, decide ((theta - c.thetaRef).natAbs ≤ c.d)) := by
    simp only [tempDelta_eq, delta, input]
  have acc : accumulate c zone (tempDelta c temp).1 = (max (-8388608) (min 8388607 sum),
      decide (sum < -8388608 ∨ 8388607 < sum)) := by
    rw [td]
    exact accumulate_eq hb hz hg1 hg2 delta
  have racc : r.acc = max (-8388608) (min 8388607 sum) := congrArg Prod.fst acc
  obtain ⟨q, hq⟩ : ∃ q, q = scaled c.round r.acc := ⟨_, rfl⟩
  have code : (r.code : Int) = max (c.pmin : Int) (min c.pmax q) := hq ▸ compute_code hlim zone temp
  have low : r.flags.limLow = decide (q < c.pmin) := hq ▸ rfl
  have high : r.flags.limHigh = decide ((c.pmax : Int) < q) := hq ▸ compute_limHigh hlim zone temp
  obtain ⟨least, greatest, top, bottom⟩ := scaled_bounds c.round (acc := r.acc) (by omega) (by omega)
  rw [← hq] at least greatest top bottom
  refine ⟨by omega, by omega, racc, congrArg Prod.snd acc, rfl, congrArg Prod.snd td, ?_, q, fun h => ?_, fun h => ?_, least,
    greatest, low, high, ?_, ?_, ?_, ?_⟩
  · simp only [low, high, Bool.and_eq_false_iff, decide_eq_false_iff_not]
    omega
  · rw [hq, h]
    exact scaled_nearest _
  · rw [hq, h]
    rfl
  all_goals
    simp only [low, high, decide_eq_true_eq, decide_eq_false_iff_not]
    omega

/-! ### Clamp sets (R126, R201) -/

theorem testBit_bitsToNat (bits : List Bool) (i : Nat) : (bitsToNat bits).testBit i = bits.getD i false := by
  induction bits generalizing i with
  | nil => simp [bitsToNat]
  | cons b bs ih =>
    cases i with
    | zero => cases b <;> simp [bitsToNat]
    | succ i =>
      have half : bitsToNat (b :: bs) / 2 = bitsToNat bs := by
        cases b <;> simp only [bitsToNat] <;> split <;> omega
      rw [Nat.testBit_succ, half, ih]
      rfl

theorem bitsToNat_lt (bits : List Bool) : bitsToNat bits < 2 ^ bits.length := by
  induction bits with
  | nil => simp [bitsToNat]
  | cons b bs ih =>
    rw [bitsToNat, List.length_cons, pow_succ]
    split <;> omega

/-- A clamp bit stands where the clamp changes the value. -/
theorem clampNat_zero_ne (hi n : Nat) : (clampNat 0 hi n != n) = decide (hi < n) := by
  rw [Bool.eq_iff_iff]
  simp [clampNat]

theorem clampInt_ne {lo hi : Int} (h : lo ≤ hi) (n : Int) : (clampInt lo hi n != n) = decide (n < lo ∨ hi < n) := by
  rw [Bool.eq_iff_iff]
  simp only [clampInt, bne_iff_ne, decide_eq_true_eq]
  omega

theorem clampedSet_eq (b : Nat) (g k thetaRef : Int) (d pmin pmax : Nat) (round : Rounding) :
    clampedSet b g k thetaRef d pmin pmax round =
      { b := min 1023 b, g := g, k := k, thetaRef := max (-160) (min 500 thetaRef), d := min 15 d
        pmin := min 1023 pmin, pmax := min 1023 pmax, round := round } := by
  simp [clampedSet, clampNat, clampInt]

/-! ### Operand codes (R200) -/

theorem setKindOf_isSome (kind : Nat) : (setKindOf kind).isSome = decide (kind ≤ 2) := by
  unfold setKindOf
  repeat' split
  all_goals
    simp only [Option.isSome_some, Option.isSome_none, true_eq_decide_iff, false_eq_decide_iff]
    omega

theorem roundingOf_isSome (round : Nat) : (roundingOf round).isSome = decide (round ≤ 1) := by
  unfold roundingOf
  repeat' split
  all_goals
    simp only [Option.isSome_some, Option.isSome_none, true_eq_decide_iff, false_eq_decide_iff]
    omega

theorem copyOf_isSome (copy : Nat) : (copyOf copy).isSome = decide (copy ≤ 1) := by
  unfold copyOf
  repeat' split
  all_goals
    simp only [Option.isSome_some, Option.isSome_none, true_eq_decide_iff, false_eq_decide_iff]
    omega

/-- The entry a kind byte names, read and changed. -/
theorem setKindOf_of_le {kind : Nat} (h : kind ≤ 2) : ∃ k, setKindOf kind = some k ∧
    (∀ p : Power, p.get k = if kind = 0 then p.read else if kind = 1 then p.erase else p.write) ∧
    ∀ (p : Power) (f : PowerKind → PowerKind), p.set k (f (p.get k)) = { p with
      read := if kind = 0 then f p.read else p.read
      erase := if kind = 1 then f p.erase else p.erase
      write := if kind = 2 then f p.write else p.write } := by
  interval_cases kind <;> exact ⟨_, rfl, fun _ => rfl, fun _ _ => rfl⟩

theorem roundingOf_of_le {round : Nat} (h : round ≤ 1) :
    roundingOf round = some (if round = 0 then .nearest else .truncate) := by
  interval_cases round <;> rfl

/-- The copy of a set a copy byte names. -/
theorem copyOf_of_le {copy : Nat} (h : copy ≤ 1) : ∃ staged, copyOf copy = some staged ∧
    ∀ x : PowerKind, x.copy staged = if copy = 0 then x.active else x.staged := by
  interval_cases copy <;> exact ⟨_, rfl, fun _ => rfl⟩

/-! ### SET POWER (R125, R126) -/

theorem State.firstRefusal_setPowerChecks (s : State) (kind pmin pmax round : Nat) :
    firstRefusal (s.setPowerChecks kind pmin pmax round) =
      if s.sup.mount = .spinningUp ∨ s.sup.mount = .mapping then some .busy
      else if 2 < kind ∨ 1 < round ∨ pmax < pmin then some .badParameter else none := by
  simp only [State.setPowerChecks, firstRefusal_cons, firstRefusal_nil, setKindOf_isSome, roundingOf_isSome,
    Mount.takesSetPower, decide_eq_true_eq]
  grind

theorem setPowerClamps_testBit (b : Nat) (thetaRef : Int) (d pmin pmax : Nat) :
    let clamps := setPowerClamps b thetaRef d pmin pmax
    clamps.testBit 0 = decide (1023 < b) ∧ clamps.testBit 1 = decide (thetaRef < -160 ∨ 500 < thetaRef) ∧
    clamps.testBit 2 = decide (15 < d) ∧ clamps.testBit 3 = decide (1023 < pmin) ∧
    clamps.testBit 4 = decide (1023 < pmax) ∧ clamps < 32 := by
  simp only [setPowerClamps, testBit_bitsToNat, clampNat_zero_ne, clampInt_ne (by decide : (-160 : Int) ≤ 500)]
  exact ⟨rfl, rfl, rfl, rfl, rfl, bitsToNat_lt _⟩

/-- Settles O47: the checks of R125 come down to two refusals, and what is staged is the clamped set. -/
theorem setPowerStagesTheClampedSet : Obligations.SetPowerStagesTheClampedSet := by
  intro kind b g k thetaRef d pmin pmax round s hs cmd
  have arrives : exec cmd s = .next (s.arriveSetPower kind b g k thetaRef d pmin pmax round) :=
    onFrame_of_quiet hs.quiet hs.accepting _ _
  have first := s.firstRefusal_setPowerChecks kind pmin pmax round
  refine ⟨fun hm => ?_, fun h1 h2 hp => ?_, fun h1 h2 hk hr hp => ?_⟩
  · rw [arrives, State.arriveSetPower, State.checked_of_refused (first.trans (if_pos hm))]
    rfl
  · rw [if_neg (not_or.mpr ⟨h1, h2⟩), if_pos hp] at first
    rw [arrives, State.arriveSetPower, State.checked_of_refused first]
    rfl
  · rw [if_neg (not_or.mpr ⟨h1, h2⟩), if_neg (by omega)] at first
    obtain ⟨kd, named, -, change⟩ := setKindOf_of_le hk
    obtain ⟨bit0, bit1, bit2, bit3, bit4, lt⟩ := setPowerClamps_testBit b thetaRef d pmin pmax
    refine ⟨setPowerClamps b thetaRef d pmin pmax, _, arrives, ?_⟩
    simp only [State.arriveSetPower, State.checked_of_passes first, named, roundingOf_of_le hr]
    refine ⟨rfl, bit0, bit1, bit2, bit3, bit4, lt, ?_⟩
    rw [State.stagePower, State.withPower_power, change, clampedSet_eq]
    rfl

/-! ### CALC (R137, R138) -/

theorem firstRefusal_calcChecks (zone tempMode : Nat) (temp : Int) (kind copy : Nat) :
    firstRefusal (calcChecks zone tempMode temp kind copy) =
      if 15 < zone ∨ (tempMode = 0 ∧ (temp < -160 ∨ 500 < temp)) ∨ 2 < kind ∨ 1 < copy then some .badParameter
      else none := by
  simp only [calcChecks, firstRefusal_cons, firstRefusal_nil, setKindOf_isSome, copyOf_isSome]
  grind

/-- Settles O48: the checks of R137 come down to one refusal, and the report is of the named copy. -/
theorem calcReportsTheComputation : Obligations.CalcReportsTheComputation := by
  intro zone tempMode temp kind copy s hs
  have arrives : exec (.calcPower zone tempMode temp kind copy) s = .next (s.arriveCalc zone tempMode temp kind copy) :=
    onFrame_of_quiet hs.quiet hs.accepting _ _
  have first := firstRefusal_calcChecks zone tempMode temp kind copy
  refine ⟨fun h => ?_, fun hz ht hk hc => ?_⟩
  · rw [arrives, State.arriveCalc, State.checked_of_refused (first.trans (if_pos h))]
    rfl
  · rw [if_neg (by omega)] at first
    obtain ⟨kd, named, entry, -⟩ := setKindOf_of_le hk
    obtain ⟨staged, copied, chosen⟩ := copyOf_of_le hc
    simp only [arrives, State.arriveCalc, State.checked_of_passes first, named, copied, State.calcReport, entry, chosen]
    rfl

end Sys2Proof.Machine

/-! # Chapter 8: READ MAP and FLUSH MAP

What READ MAP reports is what follows the cursor, cut off at 64 entries; it ends where all of it is reported. A FLUSH MAP of
a clean map is a request that ends with its arrival. -/

namespace Sys2Proof.Machine

/-! ### READ MAP (R158, R159) -/

/-- The entries a READ MAP finds behind the cursor it starts from. -/
def Remap.following (r : Remap) (restart : Bool) : List Entry :=
  r.entries.filter (if restart then Cursor.start else r.cursor).before

/-- What a READ MAP reports of the table, with or without the END mark. -/
def Remap.report (r : Remap) (restart last : Bool) : MapReport :=
  { status := r.status, generation := r.generation, dirty := r.dirty, count := r.entries.length, atEnd := last
    entries := (r.following restart).take 64 }

theorem Remap.readMap_of_last {r : Remap} {restart : Bool} (h : (r.following restart).length ≤ 64) :
    r.readMap restart = (r.report restart true, .atEnd) := by
  have finished : decide ((r.following restart).length ≤ reportEntries) = true := decide_eq_true h
  unfold Remap.following at finished
  simp only [Remap.readMap, finished, if_true]
  rfl

/-- Where more than 64 entries follow, the cursor stands behind the 64th of them. -/
theorem Remap.readMap_of_more {r : Remap} {restart : Bool} {e : Entry} (h : 64 < (r.following restart).length)
    (he : (r.following restart)[63]? = some e) : r.readMap restart = (r.report restart false, .after e.position) := by
  have more : decide ((r.following restart).length ≤ reportEntries) = false := decide_eq_false (Nat.not_le.mpr h)
  have last : ((r.following restart).take reportEntries).getLast? = some e := by
    rw [List.getLast?_take, reportEntries, if_neg (by decide), he, Option.some_or]
  unfold Remap.following at more last
  simp only [Remap.readMap, more, last, Bool.false_eq_true, if_false]
  rfl

/-- Settles O51: the two cases of R158 by what follows the cursor. -/
theorem readMapReportsAndMovesTheCursor : Obligations.ReadMapReportsAndMovesTheCursor := by
  intro options s hs cursor following report
  have arrives : exec (.readMap options) s = .next (s.arriveReadMap options) := onFrame_of_quiet hs.quiet hs.accepting _ _
  have behind : following = s.remap.following (optionBit options) := by
    have start : (if optionBit options = true then Cursor.start else s.remap.cursor) = cursor := by
      simp [optionBit, cursor]
    rw [Remap.following, start]
    change (match cursor with | .start => _ | .after p => _ | .atEnd => _) = _
    cases cursor with
    | start => exact (List.filter_true _).symm
    | after p => rfl
    | atEnd => exact (List.filter_false _).symm
  have reports (last : Bool) : report last = .mapReport (s.remap.report (optionBit options) last) := by
    rw [Remap.report, ← behind]
  refine ⟨fun h => ?_, fun e h he => ?_⟩
  · rw [arrives, State.arriveReadMap, Remap.readMap_of_last (behind ▸ h), reports]
    rfl
  · rw [arrives, State.arriveReadMap, Remap.readMap_of_more (behind ▸ h) (behind ▸ he), reports]
    rfl

/-! ### FLUSH MAP (R153) -/

/-- The checks of R153, made in order, give the refusal of its table. -/
theorem State.firstRefusal_flushChecks (s : State) (tag : Nat) : firstRefusal (s.flushChecks tag) = flushRefusal tag s := by
  simp only [State.flushChecks, State.tagChecks, Mount.mediumChecks, List.cons_append, List.nil_append,
    firstRefusal_cons, firstRefusal_nil]
  refine refusal_row (by simp [tagValid]) fun _ => ?_
  refine refusal_row (by simp [← State.tagInUse_iff]) fun _ => ?_
  refine refusal_row (by simp) fun _ => ?_
  refine refusal_row (by simp) fun _ => ?_
  refine refusal_row (by simp) fun _ => ?_
  exact refusal_row (by simp [imp_iff_not_or]) fun _ => rfl

theorem tag_free_of_flush_passes {tag : Nat} {s : State} (h : flushRefusal tag s = none) : ∀ r ∈ s.requests, r.tag ≠ tag := by
  unfold flushRefusal at h
  split_ifs at h with _ busy
  exact fun r hr ht => busy ⟨r, hr, ht⟩

/-- A request that ends as it is created, under a tag not in use, stands ENDED in the table with its DONE composed (R58). -/
theorem State.addRequest_endRequest {s : State} {r : Request} (h : ∀ q ∈ s.requests, q.tag ≠ r.tag) (recorded : Option Reason) :
    (s.addRequest r).endRequest r.tag recorded =
      ({ s with requests := s.requests ++ [{ r with state := .ended }] }).compose (r.doneRecord recorded) := by
  have found : (s.addRequest r).request? r.tag = some r := by
    have absent : s.requests.find? (fun q => q.tag == r.tag) = none := by simpa using h
    simp [State.request?, State.addRequest, absent]
  have others (f : Request → Request) : s.requests.map (fun q => if q.tag = r.tag then f q else q) = s.requests :=
    (List.map_congr_left fun q hq => if_neg (h q hq)).trans (List.map_id _)
  rw [State.endRequest, found]
  simp only [State.updateRequest, State.addRequest, State.withRequests_requests, List.map_append, List.map_singleton, if_true,
    others]
  rfl

/-- Settles O50: the checks of R153 come down to `flushRefusal`, and the map's dirty flag decides between the two takings. -/
theorem flushMapBeginsOrEnds : Obligations.FlushMapBeginsOrEnds := by
  intro tag s hs record
  have arrives : exec (.flushMap tag) s = .next (s.arriveFlushMap tag) := onFrame_of_quiet hs.quiet hs.accepting _ _
  have first := s.firstRefusal_flushChecks tag
  have taken (h : flushRefusal tag s = none) : exec (.flushMap tag) s = .next (s.takeFlush tag) := by
    rw [arrives, State.arriveFlushMap, State.checked_of_passes (first.trans h)]
  refine ⟨fun reason h => ?refused, fun h hd => ?begins, fun h hd => ?ends⟩
  case refused => rw [arrives, State.arriveFlushMap, State.checked_of_refused (first.trans h)]
  case begins =>
    have dirty : (s.taken tag 0x12 0).remap.dirty = true := hd
    rw [taken h, State.takeFlush, if_pos dirty]
    rfl
  case ends =>
    have clean : ¬(s.taken tag 0x12 0).remap.dirty = true := by simpa using hd
    have atOnce := State.addRequest_endRequest (s := s.taken tag 0x12 0) (r := newRequest tag .flushMap none false 0)
      (tag_free_of_flush_passes h) none
    rw [taken h, State.takeFlush, if_neg clean]
    exact congrArg Host.Outcome.next atOnce

end Sys2Proof.Machine

/-! # Chapter 8: the allocation of spares

The bands are searched in a list that holds every spare of the surface once, in the order of R145; what a search finds first
comes before every other free spare. More spares exist than the table has entries. -/

namespace Sys2Proof.Machine

/-! ### The spare bands (R3, R4) -/

theorem cls_eq_spare_iff {p : Psa} :
    p.cls = some .spare ↔ p.track < 19200 ∧ 1184 ≤ p.track % 1200 ∧ p.sector < 17 + p.track / 1200 := by
  unfold Psa.cls
  split
  case isFalse invalid =>
    have := mt psa_valid_iff.mpr invalid
    unfold trackSectors trackZone zoneSectors mapTrack at this
    grind
  case isTrue valid =>
    have := psa_valid_iff.mp valid
    unfold trackSectors trackZone zoneSectors mapTrack at this
    unfold mapTrack
    grind

/-- The band of a zone holds the sectors of class SPARE of its tracks. -/
theorem mem_spareBand {z : Nat} (hz : z < 16) {p : Psa} : p ∈ spareBand z ↔ p.cls = some .spare ∧ trackZone p.track = z := by
  obtain ⟨track, sector⟩ := p
  simp only [spareBand, List.mem_flatMap, List.mem_map, List.mem_range, Psa.mk.injEq, cls_eq_spare_iff, zoneSectors]
  constructor
  · rintro ⟨t, ht, k, hk, rfl, rfl⟩
    refine ⟨by omega, ?_⟩
    rw [Nat.add_assoc, trackZone_add hz (by omega)]
  · rintro ⟨⟨ht, hb, hs⟩, rfl⟩
    have zone : trackZone track = track / 1200 := if_neg (by unfold mapTrack; omega)
    rw [zone]
    exact ⟨track % 1200 - 1184, by omega, sector, hs, by omega, rfl⟩

theorem length_spareBand (z : Nat) : (spareBand z).length = 16 * zoneSectors z := by
  simp only [spareBand, List.length_flatMap, List.length_map, List.length_range, List.map_const', List.sum_replicate_nat]

theorem spareBand_pairwise (z : Nat) : (spareBand z).Pairwise fun p q => p.precedes q = true := by
  simp only [spareBand, Psa.precedes, decide_eq_true_eq, List.pairwise_flatMap, List.pairwise_map]
  refine ⟨fun t _ => ?sameTrack, ?tracks⟩
  case sameTrack => exact List.pairwise_lt_range.imp fun h => .inr ⟨trivial, h⟩
  case tracks =>
    refine List.pairwise_lt_range.imp fun h p hp q hq => .inl ?_
    obtain ⟨i, -, rfl⟩ := List.mem_map.mp hp
    obtain ⟨k, -, rfl⟩ := List.mem_map.mp hq
    simpa using h

/-! ### The order of the search (R145 step 2) -/

/-- How many zones away from zone z a sector lies. -/
def zonesAway (z : Nat) (p : Psa) : Nat := ((trackZone p.track : Int) - z).natAbs

/-- The order in which spares are searched for an LSN of zone z: nearer bands first, the higher zone before the lower at one
distance, then the order of R5. -/
def SearchedBefore (z : Nat) (p q : Psa) : Prop :=
  zonesAway z p < zonesAway z q ∨ (zonesAway z p = zonesAway z q ∧ trackZone q.track < trackZone p.track) ∨
    (trackZone p.track = trackZone q.track ∧ p.precedes q = true)

/-- The spares of the surface in the order in which they are searched for an LSN of zone z. -/
def searchList (z : Nat) : List Psa := (bandOrder z).flatMap spareBand

/-- The order of the bands goes through the sixteen zones, each once. -/
theorem bandOrder_perm : ∀ z < 16, (bandOrder z).Perm (List.range 16) := by decide

theorem bandOrder_pairwise : ∀ z < 16, (bandOrder z).Pairwise fun a b : Nat =>
    ((a : Int) - z).natAbs < ((b : Int) - z).natAbs ∨ (((a : Int) - z).natAbs = ((b : Int) - z).natAbs ∧ b < a) := by
  decide

theorem lt_of_mem_bandOrder {z y : Nat} (hz : z < 16) (hy : y ∈ bandOrder z) : y < 16 :=
  List.mem_range.mp ((bandOrder_perm z hz).mem_iff.mp hy)

theorem mem_searchList {z : Nat} (hz : z < 16) {p : Psa} : p ∈ searchList z ↔ p.cls = some .spare := by
  rw [searchList, List.mem_flatMap]
  constructor
  · rintro ⟨y, hy, hp⟩
    exact ((mem_spareBand (lt_of_mem_bandOrder hz hy)).mp hp).1
  · intro hp
    have zone : trackZone p.track < 16 := by
      obtain ⟨ht, -, -⟩ := cls_eq_spare_iff.mp hp
      unfold trackZone
      split <;> omega
    exact ⟨_, (bandOrder_perm z hz).mem_iff.mpr (List.mem_range.mpr zone), (mem_spareBand zone).mpr ⟨hp, rfl⟩⟩

theorem length_searchList {z : Nat} (hz : z < 16) : (searchList z).length = 6272 := by
  rw [searchList, ((bandOrder_perm z hz).flatMap_right spareBand).length_eq, List.length_flatMap]
  simp only [length_spareBand, zoneSectors]
  rfl

theorem searchList_pairwise {z : Nat} (hz : z < 16) : (searchList z).Pairwise (SearchedBefore z) := by
  rw [searchList, List.pairwise_flatMap]
  have zoneOf {y : Nat} (hy : y ∈ bandOrder z) {p : Psa} (hp : p ∈ spareBand y) : trackZone p.track = y :=
    ((mem_spareBand (lt_of_mem_bandOrder hz hy)).mp hp).2
  refine ⟨fun y hy => ?oneBand, ?twoBands⟩
  case oneBand =>
    exact (spareBand_pairwise y).imp_of_mem fun hp hq h => .inr (.inr ⟨(zoneOf hy hp).trans (zoneOf hy hq).symm, h⟩)
  case twoBands =>
    refine (bandOrder_pairwise z hz).imp_of_mem fun ha hb h p hp q hq => ?_
    simp only [SearchedBefore, zonesAway, zoneOf ha hp, zoneOf hb hq]
    exact h.imp_right .inl

theorem SearchedBefore.ne {z : Nat} {p q : Psa} (h : SearchedBefore z p q) : p ≠ q := by
  rintro rfl
  simp [SearchedBefore, Psa.precedes] at h

theorem searchList_nodup {z : Nat} (hz : z < 16) : (searchList z).Nodup := (searchList_pairwise hz).imp SearchedBefore.ne

/-- Every LSN in range has a zone. -/
theorem lsnZone_lt {lsn : Nat} (h : lsn < lsnEnd) : lsnZone lsn < 16 := by
  obtain ⟨z, hz, hlo, hhi⟩ := exists_zone_of_lt_zoneBase (zoneBase_sixteen ▸ h)
  exact lsnZone_eq hz hlo hhi ▸ hz

/-! ### The allocation (R143, R145) -/

/-- No entry of a table names a spare. -/
def FreeIn (entries : List Entry) (p : Psa) : Prop := ∀ e ∈ entries, e.spare ≠ p

theorem all_spare_bne_iff {entries : List Entry} {p : Psa} :
    (entries.all fun e => e.spare != p) = true ↔ FreeIn entries p := by
  simp [FreeIn]

/-- A table with room does not name every spare: 6,272 spares are more than it can name. -/
theorem exists_free_spare {entries : List Entry} (h : entries.length < 2048) {z : Nat} (hz : z < 16) :
    ∃ p ∈ searchList z, FreeIn entries p := by
  by_contra! none
  have named : searchList z ⊆ entries.map Entry.spare := fun p hp => by
    have := none p hp
    simp only [FreeIn, not_forall, not_not] at this
    obtain ⟨e, he, hs⟩ := this
    exact List.mem_map.mpr ⟨e, he, hs⟩
  have := (List.subperm_of_subset (searchList_nodup hz) named).length_le
  rw [length_searchList hz, List.length_map] at this
  omega

/-- What is found first in an ordered list comes before everything else that could be found. -/
theorem rel_of_find?_eq_some {α : Type} {R : α → α → Prop} {l : List α} (hl : l.Pairwise R) {f : α → Bool} {a b : α}
    (h : l.find? f = some a) (hb : b ∈ l) (fb : f b = true) (hne : b ≠ a) : R a b := by
  obtain ⟨-, before, after, rfl, none⟩ := List.find?_eq_some_iff_append.mp h
  obtain ⟨-, hafter, -⟩ := List.pairwise_append.mp hl
  rcases List.mem_append.mp hb with hb | hb
  · exact absurd fb (by simpa using none b hb)
  · rcases List.mem_cons.mp hb with rfl | hb
    · exact absurd rfl hne
    · exact List.rel_of_pairwise_cons hafter hb

/-- While the table has room the first free spare of the search is allocated. -/
theorem allocateSpare_of_room {entries : List Entry} (h : entries.length < 2048) {lsn : Nat} (hl : lsn < lsnEnd) :
    ∃ p, allocateSpare entries lsn = some p ∧ p.cls = some .spare ∧ FreeIn entries p ∧
      ∀ q : Psa, q.cls = some .spare → FreeIn entries q → q ≠ p → SearchedBefore (lsnZone lsn) p q := by
  have hz := lsnZone_lt hl
  have searches : allocateSpare entries lsn =
      (searchList (lsnZone lsn)).find? fun p => entries.all fun e => e.spare != p := if_pos h
  obtain ⟨p, hp⟩ : ∃ p, allocateSpare entries lsn = some p := by
    obtain ⟨q, hq, free⟩ := exists_free_spare h hz
    rw [← Option.isSome_iff_exists, searches, List.find?_isSome]
    exact ⟨q, hq, all_spare_bne_iff.mpr free⟩
  obtain ⟨-, listed, free⟩ := allocateSpare_some hp
  refine ⟨p, hp, (mem_searchList hz).mp listed, free, fun q hq hfree hne => ?_⟩
  exact rel_of_find?_eq_some (searchList_pairwise hz) (searches ▸ hp) ((mem_searchList hz).mpr hq)
    (all_spare_bne_iff.mpr hfree) hne

theorem allocateSpare_of_full {entries : List Entry} (h : 2048 ≤ entries.length) (lsn : Nat) :
    allocateSpare entries lsn = none := if_neg (Nat.not_lt.mpr h)

/-- In the band of the LSN's own zone, which is searched first, the lowest free spare is allocated. -/
theorem SearchedBefore.of_own_zone {z : Nat} {p q : Psa} (h : SearchedBefore z p q) (hq : trackZone q.track = z) :
    trackZone p.track = z ∧ p.precedes q = true := by
  unfold SearchedBefore zonesAway at h
  rcases h with h | ⟨h, hlt⟩ | ⟨h, hp⟩
  · omega
  · omega
  · exact ⟨h.trans hq, hp⟩

end Sys2Proof.Machine

/-! # Chapter 8: the entry of a job that ends, and reassignment

A job owns at most one PENDING entry; its retirement and its activation are insertions into the table without it. A
reassignment retires the failed spare and then redirects the job or ends it. -/

namespace Sys2Proof.Machine

/-! ### The PENDING entry of a job (R144 step 1, R146, R148) -/

theorem mem_insertEntry {e x : Entry} {l : List Entry} : x ∈ insertEntry e l ↔ x = e ∨ x ∈ l :=
  (insertEntry_perm e l).mem_iff.trans List.mem_cons

/-- The flush, with its stale mark set where it has made its snapshot (R154). -/
def Remap.staleFlush (r : Remap) : Option FlushContext :=
  r.flush.map fun f => { f with stale := f.stale || decide (f.phase ≠ .waitingForSlots) }

theorem Remap.setDirty_eq (r : Remap) : r.setDirty = { r with dirty := true, flush := r.staleFlush } := by
  have mark (f : FlushContext) : (if f.phase = .waitingForSlots then f else { f with stale := true }) =
      { f with stale := f.stale || decide (f.phase ≠ .waitingForSlots) } := by
    by_cases h : f.phase = .waitingForSlots
    · rw [if_pos h, decide_eq_false (not_not_intro h), Bool.or_false]
    · rw [if_neg h, decide_eq_true h, Bool.or_true]
  simp only [Remap.setDirty, Remap.staleFlush, mark]

/-- A job owns an entry: it is in the table, and no other entry is the job's. -/
structure Remap.Owns (r : Remap) (id : JobId) (lsn : Nat) (spare : Psa) : Prop where
  mem  : .pending lsn spare id ∈ r.entries
  only : ∀ e ∈ r.entries, e.ownedBy id = true → e = .pending lsn spare id

theorem Remap.Owns.owned {r : Remap} {id : JobId} {lsn : Nat} {spare : Psa} (h : r.Owns id lsn spare) :
    r.owned id = some (.pending lsn spare id) := by
  obtain ⟨e, he⟩ : ∃ e, r.owned id = some e := by
    rw [← Option.isSome_iff_exists, Remap.owned, List.find?_isSome]
    exact ⟨_, h.mem, by simp [Entry.ownedBy]⟩
  rw [he, h.only e (List.mem_of_find?_eq_some he) (List.find?_some he)]

theorem Remap.owned_eq_none {r : Remap} {id : JobId} (h : ∀ e ∈ r.entries, e.ownedBy id = false) : r.owned id = none :=
  List.find?_eq_none.mpr fun e he => by simp [h e he]

theorem Remap.retireOwned_of_none {r : Remap} {id : JobId} (h : r.owned id = none) (target : Psa) :
    r.retireOwned id target = r := by
  simp only [Remap.retireOwned, h]

theorem Remap.activateOwned_of_none {r : Remap} {id : JobId} (h : r.owned id = none) : r.activateOwned id = r := by
  simp only [Remap.activateOwned, h]

/-- An ACTIVE entry is no job's (R142). -/
theorem Entry.ownedBy_active (id : JobId) (lsn : Nat) (p : Psa) : (Entry.active lsn p).ownedBy id = false := rfl

theorem Remap.mem_dropOwned {r : Remap} {id : JobId} {e : Entry} :
    e ∈ (r.dropOwned id).entries ↔ e ∈ r.entries ∧ e.ownedBy id = false := by
  simp [Remap.dropOwned]

/-- The retirement of a job's entry leaves the mark of MAP FULL. -/
@[simp] theorem Remap.retireOwned_fullMark (r : Remap) (id : JobId) (target : Psa) :
    (r.retireOwned id target).fullMark = r.fullMark := by
  unfold Remap.retireOwned
  repeat' split
  all_goals rfl

/-- Retiring entries one by one adds the RETIRED entry of each. -/
theorem mem_foldl_retire {olds entries : List Entry} {e : Entry} :
    e ∈ olds.foldl (fun es o => insertEntry (.retired o.spare) es) entries ↔
      (∃ o ∈ olds, e = .retired o.spare) ∨ e ∈ entries := by
  induction olds generalizing entries with
  | nil => simp
  | cons o olds ih =>
    rw [List.foldl_cons, ih, mem_insertEntry, List.exists_mem_cons_iff]
    exact or_left_comm.trans or_assoc.symm

theorem mem_retireActive {lsn : Nat} {entries : List Entry} {e : Entry} :
    e ∈ retireActive lsn entries ↔
      (∃ old, .active lsn old ∈ entries ∧ e = .retired old) ∨ (e ∈ entries ∧ e.isActiveOf lsn = false) := by
  rw [retireActive, mem_foldl_retire]
  simp only [List.mem_filter, Bool.not_eq_true']
  refine or_congr_left ⟨?_, ?_⟩
  · rintro ⟨o, ⟨ho, ha⟩, rfl⟩
    obtain ⟨old, rfl⟩ := Entry.isActiveOf_iff.mp ha
    exact ⟨old, ho, rfl⟩
  · rintro ⟨old, ho, rfl⟩
    exact ⟨_, ⟨ho, Entry.isActiveOf_iff.mpr ⟨old, rfl⟩⟩, rfl⟩

namespace Remap.Owns

variable {r : Remap} {id : JobId} {lsn : Nat} {spare : Psa}

theorem retireOwned (h : r.Owns id lsn spare) : r.retireOwned id spare = { r with
    entries := insertEntry (.retired spare) (r.dropOwned id).entries, dirty := true, flush := r.staleFlush } := by
  simp only [Remap.retireOwned, h.owned, if_true, Remap.setDirty_eq]
  rfl

theorem activateOwned (h : r.Owns id lsn spare) : r.activateOwned id = { r with
    entries := insertEntry (.active lsn spare) (retireActive lsn (r.dropOwned id).entries), dirty := true
    flush := r.staleFlush } := by
  simp only [Remap.activateOwned, h.owned, Remap.setDirty_eq]
  rfl

/-- A spare that is not the job's target has not failed (R144 step 1). -/
theorem retireOwned_of_ne (h : r.Owns id lsn spare) {target : Psa} (ht : target ≠ spare) : r.retireOwned id target = r := by
  simp only [Remap.retireOwned, h.owned, ht.symm, if_false]

theorem mem_retireOwned (h : r.Owns id lsn spare) {e : Entry} :
    e ∈ (r.retireOwned id spare).entries ↔ e = .retired spare ∨ (e ∈ r.entries ∧ e.ownedBy id = false) := by
  rw [h.retireOwned, mem_insertEntry, Remap.mem_dropOwned]

theorem mem_activateOwned (h : r.Owns id lsn spare) {e : Entry} :
    e ∈ (r.activateOwned id).entries ↔ e = .active lsn spare ∨
      (∃ old, .active lsn old ∈ r.entries ∧ e = .retired old) ∨
      (e ∈ r.entries ∧ e.ownedBy id = false ∧ e.isActiveOf lsn = false) := by
  rw [h.activateOwned, mem_insertEntry, mem_retireActive]
  simp only [Remap.mem_dropOwned, Entry.ownedBy_active, and_assoc, true_and]

end Remap.Owns

/-! ### Reassignment (R143, R144) -/

/-- A job that writes for a request or a refresh and does not end DONE drops its entry, and its owner is told (R51, R147). -/
theorem State.endJob_of_writer {s : State} (hn : (s.jobs.map Job.id).Nodup) {j : Job}
    (hk : j.kind = .hostWrite ∨ j.kind = .hostErase ∨ j.kind = .refresh) {e : Ending} (he : e.isDone = false) :
    s.endJob j e = ((s.withoutJob j.id (s.remap.dropOwned j.id)).returnSlot j.slot).ownerEnd j e := by
  have writes : j.kind.writeType = true := by rcases hk with hk | hk | hk <;> rw [hk] <;> rfl
  have notMap : j.kind ≠ .mapWrite := by rcases hk with hk | hk | hk <;> simp [hk]
  rw [State.endJob, if_pos writes, State.endWrite_of_not_done hn j he, State.closeWrite, if_neg notMap]

/-- Where a job that writes for a request or a refresh ends FAILED, the remap table and the condition set having changed
before. -/
theorem State.endJob_writerFails {s : State} (hn : (s.jobs.map Job.id).Nodup) {j : Job}
    (hk : j.kind = .hostWrite ∨ j.kind = .hostErase ∨ j.kind = .refresh) (r : Remap) (conditions : State) (reason : Reason) :
    WriterFails s (((s.withRemap r).withConditions conditions.conditions).endJob j (.failed reason)) r conditions j reason := by
  generalize hu : (s.withRemap r).withConditions conditions.conditions = u
  have eq : u.endJob j (.failed reason) =
      ((u.withoutJob j.id (r.dropOwned j.id)).returnSlot j.slot).ownerEnd j (.failed reason) := by
    have nodup : (u.jobs.map Job.id).Nodup := by rwa [← hu]
    have remap : u.remap = r := by rw [← hu]; rfl
    rw [State.endJob_of_writer nodup hk rfl, remap]
  rw [eq]
  constructor
  case left =>
    have left : LeavesTable u (((u.withoutJob j.id (r.dropOwned j.id)).returnSlot j.slot).ownerEnd j (.failed reason)) j :=
      State.withoutJob_leavesTable (by rwa [← hu]) (r := r.dropOwned j.id) (by simp) (by simp) (by simp)
    exact left.congr (by rw [← hu]; rfl) (by rw [← hu]; rfl)
  case remap => simp [Remap.dropOwned]
  case pool => simp [← hu]
  case host =>
    intro tag ho
    have counts := State.ownerEnd_requestCounts (s := s)
      (u := (u.withoutJob j.id (r.dropOwned j.id)).returnSlot j.slot) (by simp [← hu]) ho (.failed reason)
    rw [Request.countEnd_failed] at counts
    refine ⟨by simpa [← hu] using counts, ?_⟩
    rw [State.ownerEnd_of_tag _ ho]
    simp [← hu]
  case refresh =>
    intro ho
    simp [State.ownerEnd, ho, State.raise_conditions, ← hu]
  case rest => simp [← hu]

/-- A condition is raised whatever the remap table is. -/
theorem State.raise_withRemap (s : State) (r : Remap) (c : Condition) :
    (s.withRemap r).raise c = (s.withRemap r).withConditions (s.raise c).conditions := by
  unfold State.raise
  by_cases h : c ∈ s.conditions
  · rw [if_pos h, if_pos (show c ∈ (s.withRemap r).conditions from h)]
    rfl
  · rw [if_neg h, if_neg (show c ∉ (s.withRemap r).conditions from h)]
    rfl

/-- What a refused allocation makes of the map and of the condition set. -/
theorem State.mapFull_eq {s : State} {r : Remap} (h : r.fullMark = s.remap.fullMark) :
    (s.withRemap r).mapFull = (s.withRemap { r with fullMark := true }).withConditions
      (if s.remap.fullMark then s else s.raise .mapFull).conditions := by
  cases hf : s.remap.fullMark with
  | true =>
    have marked : r = { r with fullMark := true } := by rw [← hf, ← h]
    rw [State.mapFull, State.withRemap_remap, if_pos (h.trans hf), ← marked]
    rfl
  | false =>
    rw [State.mapFull, State.withRemap_remap, if_neg (by simp [h, hf]), if_neg Bool.false_ne_true]
    exact State.raise_withRemap s { r with fullMark := true } .mapFull

/-- A reassigned job that finds a spare is redirected to it (R144). -/
theorem State.reassign_redirects {s : State} {j : Job} {lsn : Nat} {spare : Psa} (hj : s.job? j.id = some j)
    (hl : j.lsn = some lsn) (ht : j.sparesTried < 3)
    (ha : allocateSpare (s.remap.retireOwned j.id j.target).entries lsn = some spare) :
    s.reassign j.id =
      (s.withRemap { s.remap.retireOwned j.id j.target with
        entries := insertEntry (.pending lsn spare j.id) (s.remap.retireOwned j.id j.target).entries }).updateJob j.id
        fun o => { o with target := spare, attempts := 1 + s.cfg.writeRetries, idFailures := 0
                          sparesTried := o.sparesTried + 1, phase := .needErase } := by
  have tries : ¬spareLimit ≤ j.sparesTried := Nat.not_le.mpr ht
  simp only [State.reassign, hj, tries, hl, State.withRemap_remap, ha, if_false]
  rfl

/-- A job that has tried three spares ends (R144). -/
theorem State.reassign_of_limit {s : State} {j : Job} (hj : s.job? j.id = some j) (ht : 3 ≤ j.sparesTried) :
    s.reassign j.id = (s.withRemap (s.remap.retireOwned j.id j.target)).endJob j (.failed .spareLimit) := by
  simp only [State.reassign, hj, show spareLimit ≤ j.sparesTried from ht, if_true]

/-- A job for which no spare is left ends (R144). -/
theorem State.reassign_of_none {s : State} {j : Job} {lsn : Nat} (hj : s.job? j.id = some j)
    (hl : j.lsn = some lsn) (ht : j.sparesTried < 3)
    (ha : allocateSpare (s.remap.retireOwned j.id j.target).entries lsn = none) :
    s.reassign j.id = (s.withRemap (s.remap.retireOwned j.id j.target)).mapFull.endJob j (.failed .noSpare) := by
  have tries : ¬spareLimit ≤ j.sparesTried := Nat.not_le.mpr ht
  simp only [State.reassign, hj, tries, hl, State.withRemap_remap, ha, if_false]

theorem State.endJob_writer_remap {s : State} (hn : (s.jobs.map Job.id).Nodup) {j : Job}
    (hk : j.kind = .hostWrite ∨ j.kind = .hostErase ∨ j.kind = .refresh) {e : Ending} (he : e.isDone = false) :
    (s.endJob j e).remap = s.remap.dropOwned j.id := by
  rw [State.endJob_of_writer hn hk he]
  simp

/-- Settles O53: a search in the order of the bands, insertions into the table without the job's entry, and the three outcomes of a
reassignment. -/
theorem allocationSucceedsWhileTheTableHasRoom : Obligations.AllocationSucceedsWhileTheTableHasRoom := by
  refine ⟨fun entries lsn hl => ⟨fun room => ?allocates, fun full => allocateSpare_of_full full lsn⟩,
    fun r id lsn spare hmem honly => ?owner, fun r id target h => ?noOwner, fun s j lsn hn hj hk hl => ?reassigns⟩
  case allocates =>
    obtain ⟨p, hp, cls, free, first⟩ := allocateSpare_of_room room hl
    exact ⟨p, hp, cls, free, fun q hq hz hfree hne => (first q hq hfree hne).of_own_zone hz, first⟩
  case owner =>
    have owns : r.Owns id lsn spare := ⟨hmem, honly⟩
    exact ⟨fun _ => owns.mem_retireOwned, by rw [owns.retireOwned]; rfl, fun _ => owns.retireOwned_of_ne,
      fun _ => owns.mem_activateOwned, by rw [owns.activateOwned]; rfl⟩
  case noOwner =>
    have unowned := Remap.owned_eq_none h
    exact ⟨Remap.retireOwned_of_none unowned target, Remap.activateOwned_of_none unowned⟩
  case reassigns =>
    intro remap
    refine ⟨fun ht => ?_, fun spare ht ha => ⟨State.reassign_redirects hj hl ht ha, fun e => mem_insertEntry⟩, fun ht ha => ?_,
      fun reason => State.endJob_writer_remap hn hk rfl, State.endJob_writer_remap hn hk rfl⟩
    · rw [State.reassign_of_limit hj ht]
      exact State.endJob_writerFails hn hk remap s .spareLimit
    · rw [State.reassign_of_none hj hl ht ha, State.mapFull_eq (s.remap.retireOwned_fullMark j.id j.target)]
      exact State.endJob_writerFails hn hk _ _ .noSpare

end Sys2Proof.Machine

/-! # Chapter 9: PLAY, STOP PLAY and SET RECORDER

The three commands for the recorder are each one act: what PLAY adds, what STOP PLAY takes away, and the settings that
wait for the next page. -/

namespace Sys2Proof.Machine

/-! ### PLAY (R165, R166) -/

/-- The checks of PLAY, made in order, give the refusal of the table of R165. -/
theorem State.firstRefusal_playChecks (s : State) (lsn lineLen lineCount : Nat) :
    firstRefusal (s.playChecks lsn lineLen lineCount) = playRefusal lsn lineLen lineCount s := by
  simp only [State.playChecks, Mount.mediumChecks, List.cons_append, List.nil_append, firstRefusal_cons, firstRefusal_nil]
  refine refusal_row (by simp) fun _ => ?_
  refine refusal_row (by simp) fun _ => ?_
  refine refusal_row (by simp only [Bool.and_eq_true, decide_eq_true_eq]; omega) fun hsize => ?_
  have bytes : 1 ≤ lineLen * lineCount := Nat.mul_pos (by omega) (by omega)
  refine refusal_row (by rw [spanInRange, decide_eq_true_iff, lsnEnd, pageSectors]; omega) fun _ => ?_
  refine refusal_row (by simp [imp_iff_not_or]) fun _ => ?_
  exact refusal_row (by simp [or_iff_not_imp_left]) fun _ => rfl

/-- The ring once it is reserved: kept as it was, or the first R slots of the pool (R166). -/
theorem State.reserveRing_eq (s : State) : s.reserveRing = { s with
    pool := if s.stream.reserved then s.pool else s.pool.drop s.cfg.ringSize
    stream := { s.stream with
      reserved := true
      ringFree := if s.stream.reserved then s.stream.ringFree else s.pool.take s.cfg.ringSize } } := by
  unfold State.reserveRing
  cases hr : s.stream.reserved with
  | true =>
    have kept : s.stream = { s.stream with reserved := true } := by rw [← hr]
    simp only [if_true]
    rw [← kept]
  | false => rfl

/-- Where a new page goes, and where the fetch pointer goes with it (R165). -/
theorem Stream.addPage_eq (p : Page) (t : Stream) : t.addPage p =
    if t.active = none then
      { t with
        active := some p, readPos := 0, idleLen := p.lineLen
        fetch := if t.fetch = none then some (.active, 0) else t.fetch }
    else { t with pendingPage := some p, fetch := if t.fetch = none then some (.pending, 0) else t.fetch } := by
  unfold Stream.addPage
  cases t.active <;> cases t.fetch <;> rfl

/-- Settles O56: the checks of R165 come down to `playRefusal`, and a page is added once the ring is reserved. -/
theorem playAddsAPage : Obligations.PlayAddsAPage := by
  intro pageId lsn lineLen lineCount s hs page
  have arrives : exec (.play pageId lsn lineLen lineCount) s = .next (s.arrivePlay pageId lsn lineLen lineCount) :=
    onFrame_of_quiet hs.quiet hs.accepting _ _
  have first := s.firstRefusal_playChecks lsn lineLen lineCount
  refine ⟨fun reason h => ?refused, fun h => ?taken⟩
  case refused => rw [arrives, State.arrivePlay, State.checked_of_refused (first.trans h)]; rfl
  case taken =>
    rw [arrives, State.arrivePlay, State.checked_of_passes (first.trans h)]
    dsimp only
    rw [Stream.addPage_eq, State.reserveRing_eq]
    rfl

/-! ### STOP PLAY (R178) -/

/-- The stream jobs of stopped pages are orphans; every other job stays as it is (R178). -/
def Job.orphaned (j : Job) : Job :=
  if j.isStream then { j with page := j.page.map fun p => (Place.orphan, p.2) } else j

theorem Job.orphaned_id (j : Job) : j.orphaned.id = j.id := by
  unfold Job.orphaned
  split <;> rfl

theorem Job.orphaned_kind (j : Job) : j.orphaned.kind = j.kind := by
  unfold Job.orphaned
  split <;> rfl

theorem Job.orphaned_isStream (j : Job) : j.orphaned.isStream = j.isStream := by
  rw [Job.isStream, Job.orphaned_kind, Job.isStream]

/-- A stream job that still names a page sector names one of no page. -/
theorem Job.orphaned_page {j : Job} (hk : j.kind = .streamRead) (hp : j.orphaned.page ≠ none) :
    j.orphaned.page.map Prod.fst = some .orphan := by
  have stream : j.isStream = true := by simp [Job.isStream, hk]
  rw [Job.orphaned, if_pos stream] at hp ⊢
  obtain ⟨q, hq⟩ := Option.ne_none_iff_exists'.mp hp
  obtain ⟨r, hr, rfl⟩ := Option.map_eq_some_iff.mp hq
  simp [hr]

/-- What STOP PLAY leaves before the ring is released: no page, no filled slot, and orphans (R178). -/
def State.pagesStopped (s : State) : State :=
  let u := s.composePages .stopped
  { u with
    jobs := s.jobs.map Job.orphaned
    stream := { s.stream.withoutPages with
      filled := [], ringFree := s.stream.ringFree ++ s.stream.filled.map Filled.slot } }

theorem State.stopPages_of_active {s : State} {p : Page} (h : s.stream.active = some p) :
    s.stopPages = s.pagesStopped.releaseRing := by
  have present : ¬(s.stream.active.isNone ∧ s.stream.pendingPage.isNone) := by simp [h]
  rw [State.stopPages, if_neg present]
  simp only [State.pagesStopped, State.freeFilled, State.withStream, State.withJobs, State.composePages_frame,
    Stream.withoutPages, Bool.not_true, List.filter_false, List.filter_true]
  rfl

theorem State.stopPages_of_absent {s : State} (ha : s.stream.active = none) (hp : s.stream.pendingPage = none) :
    s.stopPages = s := by
  simp [State.stopPages, ha, hp]

theorem State.composePages_outbound {s : State} {p : Page} (h : s.stream.active = some p) (o : PageOutcome) :
    (s.composePages o).link.outbound = s.link.outbound ++
      (p :: s.stream.pendingPage.toList).map fun q => q.doneRecord o := by
  unfold State.composePages
  cases hq : s.stream.pendingPage <;> simp [h, hq, State.compose_outbound]

/-- No page is left, no filled slot and no fetch pointer (R178). -/
theorem State.stopPages_stream {s : State} {p : Page} (h : s.stream.active = some p) :
    s.stopPages.stream = { s.stream.withoutPages with
      reserved := s.stopPages.stream.reserved, ringFree := s.stopPages.stream.ringFree, filled := [] } := by
  rw [State.stopPages_of_active h]
  by_cases hidle : s.pagesStopped.ringIdle
  · rw [State.releaseRing_of_idle hidle]
    rfl
  · rw [State.releaseRing_of_held hidle]
    rfl

theorem State.stopPages_jobs {s : State} {p : Page} (h : s.stream.active = some p) :
    s.stopPages.jobs = s.jobs.map Job.orphaned := by
  rw [State.stopPages_of_active h]
  simp [State.pagesStopped]

/-- PAGE DONE for each page, the active one first. -/
theorem State.stopPages_outbound {s : State} {p : Page} (h : s.stream.active = some p) :
    s.stopPages.link.outbound = s.link.outbound ++
      (p :: s.stream.pendingPage.toList).map fun q => q.doneRecord .stopped := by
  have released : s.stopPages.link = s.pagesStopped.link := by simp [State.stopPages_of_active h]
  rw [released]
  exact State.composePages_outbound h .stopped

/-- After STOP PLAY a reserved ring is idle exactly where no stream job is in the table. -/
theorem State.pagesStopped_ringIdle (s : State) :
    s.pagesStopped.ringIdle ↔ s.stream.reserved = true ∧ s.jobs.any Job.isStream = false := by
  have streams : (s.jobs.map Job.orphaned).any Job.isStream = s.jobs.any Job.isStream := by
    rw [List.any_map]
    exact congrArg s.jobs.any (funext Job.orphaned_isStream)
  simp only [State.ringIdle, State.pagesStopped, Stream.withoutPages, streams, true_and]

/-- The ring that is kept has the filled slots among its free ones. -/
theorem State.stopPages_ring_kept {s : State} {p : Page} (h : s.stream.active = some p)
    (hr : s.stream.reserved = false ∨ s.jobs.any Job.isStream = true) :
    s.stopPages.stream.reserved = s.stream.reserved ∧
    s.stopPages.stream.ringFree = s.stream.ringFree ++ s.stream.filled.map Filled.slot ∧ s.stopPages.pool = s.pool := by
  have held : ¬s.pagesStopped.ringIdle := by
    rw [State.pagesStopped_ringIdle]
    rcases hr with hr | hr <;> simp [hr]
  rw [State.stopPages_of_active h, State.releaseRing_of_held held]
  exact ⟨rfl, rfl, by simp [State.pagesStopped]⟩

/-- Where no stream job is left the ring is released. -/
theorem State.stopPages_ring_released {s : State} {p : Page} (h : s.stream.active = some p) (hr : s.stream.reserved = true)
    (hj : s.jobs.any Job.isStream = false) : s.stopPages.stream.reserved = false ∧ s.stopPages.stream.ringFree = [] ∧
    s.stopPages.pool = s.pool ++ (s.stream.ringFree ++ s.stream.filled.map Filled.slot) := by
  rw [State.stopPages_of_active h, State.releaseRing_of_idle (s.pagesStopped_ringIdle.mpr ⟨hr, hj⟩)]
  simp [State.pagesStopped]

/-! ### SET RECORDER (R179) -/

theorem recorderSettings_eq_none {invert mirror fill : Nat} (h : 1 < invert ∨ 1 < mirror ∨ 3 < fill) :
    recorderSettings invert mirror fill = none := by
  have switch {n : Nat} (hn : 1 < n) : switchOf n = none := by
    rw [switchOf, if_neg (by omega), if_neg (by omega)]
  rcases h with h | h | h
  · simp [recorderSettings, switch h]
  · simp [recorderSettings, switch h]
  · have unlisted : fillOf fill = none := by
      rw [fillOf, if_neg (by omega), if_neg (by omega), if_neg (by omega), if_neg (by omega)]
    simp [recorderSettings, unlisted]

theorem recorderSettings_eq_some {invert mirror fill : Nat} (hi : invert ≤ 1) (hm : mirror ≤ 1) (hf : fill ≤ 3) :
    recorderSettings invert mirror fill = some
      { invert := decide (invert = 1), mirror := decide (mirror = 1)
        fill := if fill = 0 then .white else if fill = 1 then .black else if fill = 2 then .repeatLast else .abort } := by
  have switch {n : Nat} (hn : n ≤ 1) : switchOf n = some (decide (n = 1)) := by
    obtain rfl | rfl : n = 0 ∨ n = 1 := by omega
    all_goals rfl
  have listed : fillOf fill =
      some (if fill = 0 then .white else if fill = 1 then .black else if fill = 2 then .repeatLast else .abort) := by
    obtain rfl | rfl | rfl | rfl : fill = 0 ∨ fill = 1 ∨ fill = 2 ∨ fill = 3 := by omega
    all_goals rfl
  simp [recorderSettings, switch hi, switch hm, listed]

/-- Settles O57: both pages end in one act, after which the ring is released where no stream job holds a slot; SET RECORDER
comes down to whether its three values are listed. -/
theorem stopPlayAndSetRecorder : Obligations.StopPlayAndSetRecorder := by
  intro s hs
  have stops : exec .stopPlay s = .next (s.taken untagged 0x31 0).stopPages :=
    onFrame_of_quiet hs.quiet hs.accepting _ _
  have sets (invert mirror fill : Nat) :
      exec (.setRecorder invert mirror fill) s = .next (s.arriveSetRecorder invert mirror fill) :=
    onFrame_of_quiet hs.quiet hs.accepting _ _
  refine ⟨fun ha hp => ?absent, fun p ha => ?present, fun invert mirror fill h => ?unlisted,
    fun invert mirror fill hi hm hf => ?listed⟩
  case absent =>
    rw [stops, State.stopPages_of_absent (s := s.taken untagged 0x31 0) ha hp]
    rfl
  case present =>
    have active : (s.taken untagged 0x31 0).stream.active = some p := ha
    have stream := State.stopPages_stream active
    have jobs := State.stopPages_jobs active
    refine ⟨_, stops, State.stopPages_outbound active, congrArg Stream.active stream, congrArg Stream.pendingPage stream,
      congrArg Stream.pageReady stream, congrArg Stream.fetch stream, congrArg Stream.readPos stream,
      congrArg Stream.filled stream, (congrArg Stream.idleLen stream :), ?ids, ?orphans,
      State.stopPages_ring_kept active, State.stopPages_ring_released active, ?rest⟩
    case ids =>
      rw [jobs]
      exact (List.map_map ..).trans (congrArg s.jobs.map (funext Job.orphaned_id))
    case orphans =>
      intro j hj hk hp
      obtain ⟨k, -, rfl⟩ := List.mem_map.mp (jobs ▸ hj)
      exact Job.orphaned_page (k.orphaned_kind ▸ hk) hp
    case rest => simp [State.taken]
  case unlisted => rw [sets, State.arriveSetRecorder, recorderSettings_eq_none h]; rfl
  case listed => rw [sets, State.arriveSetRecorder, recorderSettings_eq_some hi hm hf]; rfl

end Sys2Proof.Machine

/-! # Chapter 9: what leaves the ring

A line, an underrun and the end of a page each take filled slots and stream jobs of the active page out of the ring.
`SlotsLeave` says what that is, for any choice of the slots and the jobs, and two such acts in a row are one. -/

namespace Sys2Proof.Machine

/-! ### Filled slots and stream jobs that leave (R173, R174, R175, R177) -/

/-- The filled slots that `gone` picks are free in the ring, and so are those of the jobs that `ended` picks, which leave the
table; the fetch pointer stays, but for where on the active page it stands. -/
structure SlotsLeave (s t : State) (gone : Filled → Bool) (ended : Job → Bool) : Prop where
  filled : t.stream.filled = s.stream.filled.filter fun x => !gone x
  jobs   : t.jobs.map Job.lasting = (s.jobs.filter fun j => !ended j).map Job.lasting
  others : ∀ j ∈ s.jobs, ended j = false → (∀ o ∈ s.jobs, ended o = true → j.heldBehind ≠ some o.id) → j ∈ t.jobs
  ring   : t.stream.ringFree.Perm (s.stream.ringFree ++ (s.stream.filled.filter gone).map Filled.slot ++
    (s.jobs.filter ended).filterMap Job.slot)
  fetch  : t.stream.fetchOffActive = s.stream.fetchOffActive
  stream : t.stream.pendingPage = s.stream.pendingPage ∧ t.stream.reserved = s.stream.reserved ∧
    t.stream.idleLen = s.stream.idleLen ∧ t.stream.killLevel = s.stream.killLevel
  rest   : t.pool = s.pool ∧ t.requests = s.requests ∧ t.link = s.link ∧ t.conditions = s.conditions ∧ t.sram = s.sram

/-- What lasts of the jobs of a table that a test of lasting things picks. -/
theorem map_lasting_filter {p : Job → Bool} (hp : ∀ j, p j.lasting = p j) (l : List Job) :
    (l.filter p).map Job.lasting = (l.map Job.lasting).filter p := by
  rw [List.filter_map]
  exact congrArg _ (List.filter_congr fun j _ => (hp j).symm)

theorem slots_of_lasting {l l' : List Job} (h : l.map Job.lasting = l'.map Job.lasting) :
    l.filterMap Job.slot = l'.filterMap Job.slot := by
  have := congrArg (List.filterMap Job.slot) h
  rwa [List.filterMap_map, List.filterMap_map] at this

/-- What one of two tests picks is what the first picks, and of the rest what the second picks. -/
theorem filter_or_perm {α : Type} (p q : α → Bool) (l : List α) :
    (l.filter fun x => p x || q x).Perm (l.filter p ++ (l.filter fun x => !p x).filter q) := by
  refine (List.filter_append_perm p _).symm.trans (.of_eq ?_)
  rw [List.filter_filter, List.filter_filter, List.filter_filter]
  congr 1
  · exact List.filter_congr fun x _ => by cases p x <;> rfl
  · exact List.filter_congr fun x _ => by cases p x <;> cases q x <;> rfl

/-- Two acts in a row, the second picking its jobs by what a hold check leaves of them. -/
theorem SlotsLeave.trans {s t u : State} {gone gone' : Filled → Bool} {ended ended' : Job → Bool}
    (h : SlotsLeave s t gone ended) (h' : SlotsLeave t u gone' ended') (hl : ∀ j, ended' j.lasting = ended' j) :
    SlotsLeave s u (fun x => gone x || gone' x) (fun j => ended j || ended' j) := by
  have lasts (p : Job → Bool) (hp : ∀ j, p j.lasting = p j) :
      (t.jobs.filter p).map Job.lasting = ((s.jobs.filter fun j => !ended j).filter p).map Job.lasting := by
    rw [map_lasting_filter hp, h.jobs, map_lasting_filter hp]
  constructor
  case filled => simp [h'.filled, h.filled, List.filter_filter, Bool.and_comm]
  case jobs =>
    rw [h'.jobs, lasts _ fun j => congrArg not (hl j), List.filter_filter]
    simp [Bool.and_comm]
  case others =>
    intro j hj hne held
    rw [Bool.or_eq_false_iff] at hne
    have hjt : j ∈ t.jobs := h.others j hj hne.1 fun o ho hoe => held o ho (by simp [hoe])
    refine h'.others j hjt hne.2 fun o ho hoe => ?_
    obtain ⟨k, hk, hko⟩ := List.mem_map.mp (h.jobs ▸ List.mem_map_of_mem (f := Job.lasting) ho)
    rw [← (Job.fields_of_lasting hko).1]
    refine held k (List.mem_of_mem_filter hk) ?_
    rw [← hl k, hko, hl o, hoe, Bool.or_true]
  case ring =>
    have filled := (filter_or_perm gone gone' s.stream.filled).map Filled.slot
    have jobs := (filter_or_perm ended ended' s.jobs).filterMap Job.slot
    have first := h.ring
    have second := h'.ring
    rw [h.filled, slots_of_lasting (lasts _ hl)] at second
    rw [List.map_append] at filled
    rw [List.filterMap_append] at jobs
    simp only [List.perm_iff_count, List.count_append] at *
    intro slot
    have := first slot; have := second slot; have := filled slot; have := jobs slot
    omega
  case fetch => exact h'.fetch.trans h.fetch
  case stream =>
    obtain ⟨hp, hr, hi, hk⟩ := h.stream
    obtain ⟨hp', hr', hi', hk'⟩ := h'.stream
    exact ⟨hp'.trans hp, hr'.trans hr, hi'.trans hi, hk'.trans hk⟩
  case rest =>
    obtain ⟨hp, hr, hl, hc, hm⟩ := h.rest
    obtain ⟨hp', hr', hl', hc', hm'⟩ := h'.rest
    exact ⟨hp'.trans hp, hr'.trans hr, hl'.trans hl, hc'.trans hc, hm'.trans hm⟩

/-- The two tests said another way. -/
theorem SlotsLeave.congr {s t : State} {gone gone' : Filled → Bool} {ended ended' : Job → Bool}
    (h : SlotsLeave s t gone ended) (hg : ∀ x, gone x = gone' x) (he : ∀ j, ended j = ended' j) :
    SlotsLeave s t gone' ended' := by
  obtain rfl : gone = gone' := funext hg
  obtain rfl : ended = ended' := funext he
  exact h

/-- The active page's record, the read position, PAGE READY and the place of the fetch pointer on the page may change without
anything leaving the ring. -/
theorem SlotsLeave.of_none {s t : State} (jobs : t.jobs = s.jobs)
    (stream : t.stream = { s.stream with
      active := t.stream.active, readPos := t.stream.readPos, pageReady := t.stream.pageReady, fetch := t.stream.fetch })
    (fetch : t.stream.fetchOffActive = s.stream.fetchOffActive)
    (rest : t.pool = s.pool ∧ t.requests = s.requests ∧ t.link = s.link ∧ t.conditions = s.conditions ∧ t.sram = s.sram) :
    SlotsLeave s t (fun _ => false) (fun _ => false) := by
  have filled : t.stream.filled = s.stream.filled := by rw [stream]
  have ring : t.stream.ringFree = s.stream.ringFree := by rw [stream]
  refine ⟨by simp [filled], by simp [jobs], fun j hj _ _ => jobs ▸ hj, by simp [ring], fetch, ?_, rest⟩
  rw [stream]
  exact ⟨rfl, rfl, rfl, rfl⟩

/-- Each entry number is in use once, and the stream owns its jobs. -/
structure StreamOwned (s : State) : Prop where
  ids   : (s.jobs.map Job.id).Nodup
  owner : ∀ j ∈ s.jobs, j.kind = .streamRead → j.owner = .stream

theorem SlotsLeave.owned {s t : State} {gone : Filled → Bool} {ended : Job → Bool} (h : SlotsLeave s t gone ended)
    (hs : StreamOwned s) : StreamOwned t := by
  constructor
  case ids =>
    rw [ids_of_lasting h.jobs]
    exact hs.ids.sublist (List.filter_sublist.map _)
  case owner =>
    intro j hj hk
    obtain ⟨k, hkmem, hkj⟩ := List.mem_map.mp (h.jobs ▸ List.mem_map_of_mem (f := Job.lasting) hj)
    obtain ⟨-, howner, hkind, -⟩ := Job.fields_of_lasting hkj
    exact howner ▸ hs.owner k (List.mem_of_mem_filter hkmem) (hkind.trans hk)

/-! ### The stream jobs of the active page (R168, R178) -/

theorem Job.streamOf_iff {place : Place} {j : Job} :
    j.streamOf place = true ↔ j.kind = .streamRead ∧ ∃ sector, j.page = some (place, sector) := by
  simp only [Job.streamOf, Job.isStream, Bool.and_eq_true, decide_eq_true_eq, Option.map_eq_some_iff]
  exact and_congr_right fun _ => ⟨fun ⟨p, hp, hf⟩ => ⟨p.2, by rw [hp, ← hf]⟩, fun ⟨k, hp⟩ => ⟨_, hp, rfl⟩⟩

theorem State.ringReturn_nil (s : State) : s.ringReturn [] = s := by
  rw [State.ringReturn, List.append_nil]
  rfl

/-- A stream job of a page that is present ends CANCELLED: its slot is free in the ring. -/
theorem State.endJob_streamOf_cancelled {s : State} (ha : s.stream.active.isSome = true) {j : Job}
    (hj : j.streamOf .active = true) (ho : j.owner = .stream) :
    s.endJob j .cancelled = (s.withoutJob j.id s.remap).ringReturn j.slot.toList := by
  obtain ⟨hk, sector, hp⟩ := Job.streamOf_iff.mp hj
  have ends : s.endJob j .cancelled = (s.withoutJob j.id s.remap).streamEnd j .cancelled := by
    simp [State.endJob, hk, JobKind.writeType, State.endRead_eq, State.deliver, State.ownerEnd, ho]
  rw [ends]
  cases hs : j.slot with
  | none => rw [Option.toList_none, State.ringReturn_nil, State.streamEnd, hp, hs]
  | some slot =>
    have held : ¬((s.withoutJob j.id s.remap).ringReturn [slot]).ringIdle :=
      State.not_ringIdle_of_page (place := .active) (by simpa [Stream.pageAt, State.ringReturn] using ha)
    simpa [State.streamEnd, hp, hs] using State.releaseRing_of_held held

/-- While stream jobs of the active page end one by one, their slots are all the ring lacks. -/
structure PageJobsLeaving (s u : State) (pick : Job → Bool) (left : List Job) : Prop where
  stream : u.stream = { s.stream with ringFree := u.stream.ringFree }
  ring   : u.stream.ringFree ++ left.filterMap Job.slot = s.stream.ringFree ++ (s.jobs.filter pick).filterMap Job.slot
  others : ∀ j ∈ s.jobs, pick j = false → (∀ o ∈ s.jobs, pick o = true → j.heldBehind ≠ some o.id) → j ∈ u.jobs
  rest   : u.pool = s.pool ∧ u.requests = s.requests ∧ u.link = s.link ∧ u.conditions = s.conditions ∧ u.sram = s.sram

/-- One more job ends. -/
theorem PageJobsLeaving.step {s u : State} {pick : Job → Bool} {j k : Job} {left : List Job}
    (h : PageJobsLeaving s u pick (j :: left)) (hs : StreamOwned s) (ha : s.stream.active.isSome = true) (hj : j ∈ s.jobs)
    (hpick : pick j = true) (hpage : j.streamOf .active = true) (hkj : k.lasting = j.lasting)
    (hun : (u.jobs.map Job.id).Nodup) : PageJobsLeaving s (u.endJob k .cancelled) pick left := by
  obtain ⟨hstream, hring, hothers, hrest⟩ := h
  obtain ⟨hid, howner, hkind, -, hslot, hkpage⟩ := Job.fields_of_lasting hkj
  have stream : j.kind = .streamRead := (Job.streamOf_iff.mp hpage).1
  have kpage : k.streamOf .active = true := by rwa [Job.streamOf, Job.isStream, hkind, hkpage]
  have active : u.stream.active.isSome = true := by rwa [hstream]
  have ends := State.endJob_streamOf_cancelled active kpage (howner.trans (hs.owner j hj stream))
  have table : LeavesTable u (u.endJob k .cancelled) k := by
    rw [ends]
    exact State.withoutJob_leavesTable hun (r := u.remap) (by simp) (by simp) (by simp)
  constructor
  case stream =>
    simp only [ends, State.ringReturn, State.withStream_stream, State.withoutJob_frame]
    rw [hstream]
  case ring =>
    rw [← hring, ends, hslot]
    cases hs : j.slot <;> simp [State.ringReturn, hs]
  case others =>
    intro o ho hne held
    refine table.others o (hothers o ho hne held) (fun hok => ?_) (hid ▸ held j hj hpick)
    rw [List.inj_on_of_nodup_map hs.ids ho hj (hok.trans hid), hpick] at hne
    cases hne
  case rest => simpa [ends, State.ringReturn] using hrest

/-- Stream jobs of the active page that end CANCELLED leave the ring and the table. -/
theorem State.endJobs_leave {s : State} {pick : Job → Bool} (hs : StreamOwned s) (ha : s.stream.active.isSome = true)
    (hpick : ∀ j, pick j = true → j.streamOf .active = true) :
    SlotsLeave s (s.endJobs pick .cancelled) (fun _ => false) pick ∧
    (s.endJobs pick .cancelled).stream =
      { s.stream with ringFree := (s.endJobs pick .cancelled).stream.ringFree } := by
  obtain ⟨left, jobs⟩ := State.endJobs_induction (pick := pick) (e := .cancelled) rfl hs.ids
    (P := fun left u => PageJobsLeaving s u pick left) ⟨rfl, rfl, fun j hj _ _ => hj, rfl, rfl, rfl, rfl, rfl⟩
    fun j k left u hj hp hkj hun _ h => h.step hs ha hj hp (hpick j hp) hkj hun
  obtain ⟨stream, ring, others, rest⟩ := left
  generalize s.endJobs pick .cancelled = u at *
  refine ⟨⟨?_, jobs, others, .of_eq (by simpa using ring), ?_, ?_, rest⟩, stream⟩
  · rw [stream]; simp
  · rw [stream]; rfl
  · rw [stream]; exact ⟨rfl, rfl, rfl, rfl⟩

theorem State.freeFilled_leave (pick : Filled → Bool) (s : State) :
    SlotsLeave s (s.freeFilled pick) pick (fun _ => false) := by
  refine ⟨rfl, by simp, fun j hj _ _ => hj, ?_, rfl, ⟨rfl, rfl, rfl, rfl⟩, rfl, rfl, rfl, rfl, rfl⟩
  simp [State.freeFilled]

/-- Everything of the active page leaves the ring (R173, R175, R177). -/
theorem State.clearPage_leave {s : State} (hs : StreamOwned s) (ha : s.stream.active.isSome = true) :
    SlotsLeave s (s.clearPage .active) (fun x => decide (x.place = .active)) (Job.streamOf .active) ∧
    (s.clearPage .active).stream = { s.stream with
      filled := (s.clearPage .active).stream.filled, ringFree := (s.clearPage .active).stream.ringFree } := by
  obtain ⟨leaves, stream⟩ := State.endJobs_leave hs ha (pick := Job.streamOf .active) fun _ => id
  refine ⟨(leaves.trans (State.freeFilled_leave _ _) fun _ => rfl).congr (fun _ => rfl) fun j => Bool.or_false _, ?_⟩
  simp only [State.clearPage, State.freeFilled, State.withStream_stream]
  rw [stream]

end Sys2Proof.Machine

/-! # Chapter 9: the page start, and the end of the active page

The Nth line and an EDGE kill end the active page in the same way: it leaves the ring, its PAGE DONE is composed, the
pending page moves up, and the ring is released where nothing holds it. -/

namespace Sys2Proof.Machine

/-! ### The page-start test (R170) -/

theorem State.startCondition_iff {s : State} {p : Page} (h : s.stream.active = some p) :
    s.startCondition = true ↔ s.cfg.wHi ≤ s.stream.readyRun ∨ s.stream.filledFrom .active 0 = p.sectors := by
  simp [State.startCondition, h]

theorem State.testStart_of_met {s : State} {p : Page} (h : s.stream.active = some p) (hw : p.started = false)
    (hc : s.startCondition = true) : s.testStart = { s with stream := { s.stream with
      active := some { p with started := true }, inForce := s.stream.staged, pageReady := true, startTest := false } } := by
  have starts : s.stream.waiting = true ∧ s.startCondition = true := ⟨by simp [Stream.waiting, h, hw], hc⟩
  rw [State.testStart, if_pos starts, h]
  rfl

theorem State.testStart_of_not_met {s : State} (hc : s.startCondition ≠ true) :
    s.testStart = { s with stream := { s.stream with startTest := false } } := by
  rw [State.testStart, if_neg fun h => hc h.2]
  rfl

/-! ### The fetch pointer off the active page (R173, R177) -/

theorem Stream.fetchOffActive_of_active {t : Stream} {k : Nat} (hf : t.fetch = some (.active, k)) :
    t.fetchOffActive = t.fetchPending := by
  simp [Stream.fetchOffActive, hf]

theorem Stream.fetchOffActive_of_off {t : Stream} (h : ∀ k, t.fetch ≠ some (.active, k)) : t.fetchOffActive = t.fetch := by
  rcases hf : t.fetch with - | ⟨- | - | -, k⟩
  case some.active => exact absurd hf (h k)
  all_goals simp [Stream.fetchOffActive, hf]

theorem Stream.fetchOffActive_ne_active (t : Stream) (k : Nat) : t.fetchOffActive ≠ some (.active, k) := by
  rcases hf : t.fetch with - | ⟨- | - | -, k⟩
  case some.active => cases hq : t.pendingPage <;> simp [Stream.fetchOffActive, Stream.fetchPending, hf, hq]
  all_goals simp [Stream.fetchOffActive, hf]

theorem Stream.fetchOffActive_twice (t : Stream) : { t with fetch := t.fetchOffActive }.fetchOffActive = t.fetchOffActive :=
  Stream.fetchOffActive_of_off t.fetchOffActive_ne_active

/-! ### The active page ends (R166, R175, R177) -/

/-- The PAGE DONE of the page that has left the ring is composed, the pending page moves up, and the ring is released where
nothing holds it. -/
def State.handOver (r : Record) (s : State) : State := (s.compose r).promote.releaseRing

/-- The active page has left the ring: PAGE READY dropped, its slots free, its jobs gone, the fetch pointer moved off it. -/
def State.pageOut (s : State) : State := ((s.withStream { s.stream with pageReady := false }).clearPage .active).fetchOff

theorem State.finishPage_eq {s : State} {p : Page} (h : s.stream.active = some p) :
    s.finishPage =
      (s.emit .pageEnd).pageOut.handOver (p.doneRecord (if p.fillLines = 0 then .complete else .underrun)) := by
  unfold State.finishPage
  split
  case h_1 q hq =>
    obtain rfl : p = q := Option.some.inj (h.symm.trans hq)
    rfl
  case h_2 hq => simp [h] at hq

theorem State.killPage_eq {s : State} {p : Page} (h : s.stream.active = some p) :
    s.killPage = s.pageOut.handOver (p.doneRecord .killed) := by
  unfold State.killPage
  split
  case h_1 q hq =>
    obtain rfl : p = q := Option.some.inj (h.symm.trans hq)
    rfl
  case h_2 hq => simp [h] at hq

@[simp] theorem State.pageOut_frame (s : State) :
    s.pageOut.sup = s.sup ∧ s.pageOut.cfg = s.cfg ∧ s.pageOut.emitted = s.emitted := by
  simp [State.pageOut]

@[simp] theorem State.handOver_frame (r) (s : State) :
    (s.handOver r).sup = s.sup ∧ (s.handOver r).cfg = s.cfg ∧ (s.handOver r).requests = s.requests ∧
    (s.handOver r).sram = s.sram ∧ (s.handOver r).conditions = s.conditions ∧ (s.handOver r).emitted = s.emitted := by
  simp [State.handOver]

theorem State.fetchOff_leave (s : State) : SlotsLeave s s.fetchOff (fun _ => false) (fun _ => false) :=
  .of_none rfl rfl s.stream.fetchOffActive_twice ⟨rfl, rfl, rfl, rfl, rfl⟩

theorem State.pageOut_leave {s : State} (hs : StreamOwned s) (ha : s.stream.active.isSome = true) :
    SlotsLeave s s.pageOut (fun x => decide (x.place = .active)) (Job.streamOf .active) ∧
    s.pageOut.stream = { s.stream with
      pageReady := false, fetch := s.stream.fetchOffActive
      filled := s.pageOut.stream.filled, ringFree := s.pageOut.stream.ringFree } := by
  have ready : SlotsLeave s (s.withStream { s.stream with pageReady := false }) (fun _ => false) (fun _ => false) :=
    .of_none rfl rfl rfl ⟨rfl, rfl, rfl, rfl, rfl⟩
  obtain ⟨leaves, stream⟩ := State.clearPage_leave (ready.owned hs) ha
  have out := (ready.trans leaves fun _ => rfl).trans (State.fetchOff_leave _) fun _ => rfl
  refine ⟨out.congr (fun x => by simp) fun j => by simp, ?_⟩
  have off := leaves.fetch
  simp only [State.pageOut, State.fetchOff, State.withStream_stream]
  rw [off, stream]
  rfl

/-- A job of the pending page is one of the active page's. -/
def Job.promoted (j : Job) : Job := { j with page := j.page.map fun p => (p.1.promote, p.2) }

/-- The pending page becomes the active one, with its filled slots and its jobs. -/
theorem State.handOver_of_pending {s : State} {q : Page} (h : s.stream.pendingPage = some q) (r : Record) :
    s.handOver r = { s.compose r with
      jobs := s.jobs.map Job.promoted
      stream := { s.stream with
        active := some q, pendingPage := none, readPos := 0, idleLen := q.lineLen, startTest := false
        filled := s.stream.filled.map fun x => { x with place := x.place.promote }
        fetch := s.stream.fetch.map fun f => (f.1.promote, f.2) } } := by
  have pending : (s.compose r).stream.pendingPage = some q := by simpa using h
  rw [State.handOver, State.promote, pending]
  refine (State.releaseRing_of_held fun idle => ?_).trans ?_
  · cases idle.2.1
  · simp only [State.withStream, State.withJobs, State.compose_frame]
    rfl

/-- With no page pending no page is left. -/
theorem State.handOver_of_none {s : State} (h : s.stream.pendingPage = none) (r : Record) :
    s.handOver r = ((s.compose r).withStream { s.stream with active := none }).releaseRing := by
  have pending : (s.compose r).stream.pendingPage = none := by simpa using h
  rw [State.handOver, State.promote, pending]
  simp

theorem State.handOver_outbound (s : State) (r : Record) :
    (s.handOver r).link.outbound = s.link.outbound ++ [r] := by
  simp [State.handOver, State.compose_outbound]

/-- The pages, the read position and the idle line length once the active page has gone. -/
theorem State.handOver_stream (s : State) (r : Record) :
    (s.handOver r).stream.active = s.stream.pendingPage ∧ (s.handOver r).stream.pendingPage = none ∧
    (s.handOver r).stream.pageReady = s.stream.pageReady ∧ (s.handOver r).stream.killLevel = s.stream.killLevel ∧
    (∀ q, s.stream.pendingPage = some q →
      (s.handOver r).stream.readPos = 0 ∧ (s.handOver r).stream.idleLen = q.lineLen) ∧
    (s.stream.pendingPage = none →
      (s.handOver r).stream.readPos = s.stream.readPos ∧ (s.handOver r).stream.idleLen = s.stream.idleLen) := by
  cases h : s.stream.pendingPage with
  | some q => simp [State.handOver_of_pending h]
  | none =>
    rw [State.handOver_of_none h, State.releaseRing]
    split <;> simp [h]

theorem SlotsLeave.ids {s t : State} {gone : Filled → Bool} {ended : Job → Bool} (h : SlotsLeave s t gone ended) :
    t.jobs.map Job.id = (s.jobs.filter fun j => !ended j).map Job.id := ids_of_lasting h.jobs

/-- The free slots of the ring, the jobs' before the filled ones'. -/
theorem SlotsLeave.ring_jobs_first {s t : State} {gone : Filled → Bool} {ended : Job → Bool}
    (h : SlotsLeave s t gone ended) :
    t.stream.ringFree.Perm (s.stream.ringFree ++ (s.jobs.filter ended).filterMap Job.slot ++
      (s.stream.filled.filter gone).map Filled.slot) := by
  refine h.ring.trans ?_
  rw [List.append_assoc, List.append_assoc]
  exact List.perm_append_comm.append_left _

/-- Where a page is pending the ring goes on with it, and the page that has left is all it loses (R175, R177). -/
theorem SlotsLeave.pageLeavesRing_of_pending {s u : State} {q : Page}
    (h : SlotsLeave s u (fun x => decide (x.place = .active)) (Job.streamOf .active))
    (hf : u.stream.fetch = s.stream.fetchOffActive) (hq : s.stream.pendingPage = some q) (r : Record) :
    PageLeavesRing s (u.handOver r) := by
  obtain ⟨hpending, hreserved, -, -⟩ := h.stream
  obtain ⟨hpool, -⟩ := h.rest
  rw [State.handOver_of_pending (hpending.trans hq)]
  constructor
  case jobs => exact (List.map_map ..).trans h.ids
  case others =>
    intro j hj hne held
    rw [hq]
    exact List.mem_map_of_mem (f := Job.promoted) (h.others j hj hne held)
  case fetch =>
    dsimp only
    rw [hf, hq, Stream.fetchOffActive, Stream.fetchPending, hq]
    cases s.stream.fetch with
    | none => rfl
    | some f => obtain ⟨place, k⟩ := f; cases place <;> rfl
  case kept =>
    intro _
    refine ⟨hreserved, ?_, ?_, h.ring_jobs_first⟩
    · simpa using hpool
    · simp [h.filled, hq]
  case released =>
    intro hn
    rw [hq] at hn
    cases hn

/-- With no page pending the ring is kept for the stream jobs that are left, and released where there is none (R166). -/
theorem SlotsLeave.pageLeavesRing_of_none {s u : State}
    (h : SlotsLeave s u (fun x => decide (x.place = .active)) (Job.streamOf .active))
    (hf : u.stream.fetch = s.stream.fetchOffActive) (hq : s.stream.pendingPage = none) (r : Record) :
    PageLeavesRing s (u.handOver r) := by
  obtain ⟨hpending, hreserved, -, -⟩ := h.stream
  obtain ⟨hpool, -⟩ := h.rest
  rw [State.handOver_of_none (hpending.trans hq)]
  generalize hw : (u.compose r).withStream { u.stream with active := none } = w
  have wstream : w.stream = { u.stream with active := none } := hw ▸ rfl
  have wjobs : w.jobs = u.jobs := by simp [← hw]
  have wpool : w.pool = s.pool := by simp [← hw, hpool]
  have streams : w.jobs.any Job.isStream = false ↔ ∀ j ∈ s.jobs, j.isStream = true → j.streamOf .active = true := by
    rw [wjobs, any_isStream_of_lasting h.jobs]
    simp only [List.any_eq_false, List.mem_filter, Bool.not_eq_true', and_imp]
    exact forall₂_congr fun j _ => by cases j.isStream <;> cases j.streamOf .active <;> simp
  have idle : w.ringIdle ↔ s.stream.reserved = true ∧ ∀ j ∈ s.jobs, j.isStream = true → j.streamOf .active = true := by
    simp [State.ringIdle, ← streams, wstream, hreserved, hpending, hq]
  have fetch : w.releaseRing.stream.fetch = u.stream.fetch := by
    rw [State.releaseRing, wstream]
    split <;> simp [wstream]
  constructor
  case jobs => simpa [wjobs] using h.ids
  case others =>
    intro j hj hne held
    rw [hq]
    simpa [wjobs] using h.others j hj hne held
  case fetch =>
    rw [fetch, hf, hq, Stream.fetchOffActive, Stream.fetchPending, hq]
    cases s.stream.fetch with
    | none => rfl
    | some f => obtain ⟨place, k⟩ := f; cases place <;> rfl
  case kept =>
    intro hkept
    have held : ¬w.ringIdle := by
      rw [idle]
      rintro ⟨hr, hall⟩
      obtain hp | hr' | ⟨j, hj, hs, hne⟩ := hkept
      · exact hp hq
      · simp [hr] at hr'
      · simp [hall j hj hs] at hne
    rw [State.releaseRing_of_held held, wstream]
    exact ⟨hreserved, wpool, by simp [h.filled, hq], h.ring_jobs_first⟩
  case released =>
    intro _ hr hall
    rw [State.releaseRing_of_idle (idle.mpr ⟨hr, hall⟩), wstream, wpool]
    refine ⟨rfl, rfl, rfl, ?_⟩
    have jobs : s.jobs.filter (Job.streamOf .active) = s.jobs.filter Job.isStream := by
      refine List.filter_congr fun j hj => ?_
      have := hall j hj
      cases hs : j.isStream <;> simp_all [Job.streamOf]
    have ring := h.ring
    rw [jobs] at ring
    have filled := (List.filter_append_perm (fun x : Filled => decide (x.place = .active)) s.stream.filled).map Filled.slot
    rw [List.map_append] at filled
    simp only [h.filled, List.perm_iff_count, List.count_append] at *
    intro slot
    have := ring slot; have := filled slot
    omega

/-- A page that has left the ring hands it to the pending page, or it is released where no stream job is left. -/
theorem SlotsLeave.pageLeavesRing {s u : State}
    (h : SlotsLeave s u (fun x => decide (x.place = .active)) (Job.streamOf .active))
    (hf : u.stream.fetch = s.stream.fetchOffActive) (r : Record) : PageLeavesRing s (u.handOver r) := by
  cases hq : s.stream.pendingPage with
  | some q => exact h.pageLeavesRing_of_pending hf hq r
  | none => exact h.pageLeavesRing_of_none hf hq r

/-! ### The kill input (R176, R177) -/

/-- What a kill assertion is before it ends a page: the level and the condition (R176). -/
def State.killed (s : State) : State := { s.raise .recorderKill with stream := { s.stream with killLevel := true } }

@[simp] theorem State.killed_frame (s : State) :
    s.killed.sup = s.sup ∧ s.killed.cfg = s.cfg ∧ s.killed.requests = s.requests ∧ s.killed.jobs = s.jobs ∧
    s.killed.sram = s.sram ∧ s.killed.link = s.link ∧ s.killed.emitted = s.emitted := by
  simp [State.killed]

theorem State.raise_killed (s : State) :
    (s.withStream { s.stream with killLevel := true }).raise .recorderKill = s.killed := by
  unfold State.killed State.raise
  by_cases hc : Condition.recorderKill ∈ s.conditions
  · simp only [State.withStream_conditions, hc, if_true]
    rfl
  · simp only [State.withStream_conditions, hc, if_false]
    rfl

theorem State.killEvent_of_no_page {s : State}
    (h : s.cfg.killMode = .level ∨ ∀ p, s.stream.active = some p → p.started = false) : s.killEvent = s.killed := by
  have waits : ¬(s.killed.cfg.killMode = .edge ∧ s.killed.stream.playing = true) := by
    rintro ⟨hm, hp⟩
    have hm : s.cfg.killMode = .edge := by simpa [State.killed] using hm
    rcases h with h | h
    · simp [h] at hm
    · cases ha : s.stream.active <;> simp_all [State.killed, Stream.playing]
  simp only [State.killEvent, State.raise_killed, if_neg waits]

theorem State.killEvent_of_page {s : State} {p : Page} (hm : s.cfg.killMode = .edge) (ha : s.stream.active = some p)
    (hp : p.started = true) : s.killEvent = s.killed.killPage := by
  have playing : s.killed.cfg.killMode = .edge ∧ s.killed.stream.playing = true :=
    ⟨by simp [State.killed, hm], by simp [State.killed, Stream.playing, ha, hp]⟩
  simp only [State.killEvent, State.raise_killed, if_pos playing]

/-- The kill level has no part in what leaves the ring. -/
theorem PageLeavesRing.of_killed {s t : State} (h : PageLeavesRing s.killed t) : PageLeavesRing s t := by
  obtain ⟨jobs, others, fetch, kept, released⟩ := h
  simp only [State.killed, State.raise_frame] at jobs others kept released
  exact ⟨jobs, others, fetch, kept, released⟩

/-- Settles O60: the start condition decides the page-start test; in EDGE mode the PLAYING page leaves the ring, which goes
on with the pending page or is released. -/
theorem pageStartAndKillInput : Obligations.PageStartAndKillInput := by
  refine ⟨fun s p htest ha hw => ?start, fun s hs => ⟨?release, fun h => ?level, fun p hm ha hp hn ho => ?edge⟩⟩
  case start =>
    have tests : exec .pageStart s = .next s.testStart :=
      onStep_of_due (due := fun s => s.stream.startTest) htest State.testStart
    rw [← State.startCondition_iff ha, tests]
    exact ⟨fun hc => congrArg _ (State.testStart_of_met ha hw hc), fun hc => congrArg _ (State.testStart_of_not_met hc)⟩
  case release => exact onEvent_of_quiet hs fun s => s.withStream { s.stream with killLevel := false }
  case level =>
    have asserts : exec .killAsserted s = .next s.killEvent := onEvent_of_quiet hs State.killEvent
    rw [asserts, State.killEvent_of_no_page h]
    rfl
  case edge =>
    have asserts : exec .killAsserted s = .next s.killEvent := onEvent_of_quiet hs State.killEvent
    have active : s.killed.stream.active = some p := ha
    have owned : StreamOwned s.killed := by
      constructor
      · simpa [State.killed] using hn
      · simpa [State.killed] using ho
    obtain ⟨leaves, stream⟩ := State.pageOut_leave owned (by simp [active])
    obtain ⟨hpending, -, hidle, hlevel⟩ := leaves.stream
    obtain ⟨-, hrequests, hlink, hconditions, hsram⟩ := leaves.rest
    have fetch : s.killed.pageOut.stream.fetch = s.killed.stream.fetchOffActive := by rw [stream]
    have ready : s.killed.pageOut.stream.pageReady = false := by rw [stream]
    have readPos : s.killed.pageOut.stream.readPos = s.stream.readPos := by rw [stream]; rfl
    rw [asserts, State.killEvent_of_page hm ha hp, State.killPage_eq active]
    obtain ⟨tactive, tpending, tready, tlevel, tsome, tnone⟩ :=
      s.killed.pageOut.handOver_stream (p.doneRecord .killed)
    refine ⟨_, rfl, ?conditions, ?outbound, tactive.trans hpending, tpending, tready.trans ready, tlevel.trans hlevel,
      (leaves.pageLeavesRing fetch _).of_killed, fun q hq => tsome q (hpending.trans hq), fun hq => ?position, ?rest⟩
    case conditions =>
      rw [← show s.killed.conditions = (s.raise .recorderKill).conditions from rfl, ← hconditions]
      simp
    case outbound =>
      rw [State.handOver_outbound, hlink]
      simp [Page.doneRecord]
    case position =>
      obtain ⟨hpos, hlen⟩ := tnone (hpending.trans hq)
      exact ⟨hpos.trans readPos, hlen.trans hidle⟩
    case rest => simp [hrequests, hsram]

end Sys2Proof.Machine

/-! # Chapter 9: lines

What a line is made of, and what it does to the page it belongs to: the sectors behind the read position leave the ring, and
the last line ends the page. -/

namespace Sys2Proof.Machine

/-! ### Data lines (R172) -/

theorem transformLine_length (r : RecorderSettings) (line : List Byte) : (transformLine r line).length = line.length := by
  unfold transformLine
  cases r.mirror <;> cases r.invert <;> simp

theorem reverseByte_getLsbD (b : Byte) {i : Nat} (hi : i < 8) : (reverseByte b).getLsbD i = b.getLsbD (7 - i) := by
  rw [reverseByte, BitVec.getLsbD_reverse, BitVec.getMsbD]
  simp [hi]

/-- A line as mirror leaves it, byte by byte. -/
theorem getD_mirrored (mirror : Bool) (line : List Byte) {i : Nat} (hi : i < line.length) :
    (if mirror then line.reverse.map reverseByte else line).getD i 0 =
      if mirror then reverseByte (line.getD (line.length - 1 - i) 0) else line.getD i 0 := by
  cases mirror with
  | false => rfl
  | true =>
    have hj : line.length - 1 - i < line.length := by omega
    simp [List.getD_eq_getElem?_getD, hi, hj]

/-- Mirror reverses the bytes of a line and the bits of each, and invert complements every bit. -/
theorem transformLine_bit (r : RecorderSettings) (line : List Byte) {i b : Nat} (hi : i < line.length) (hb : b < 8) :
    ((transformLine r line).getD i 0).getLsbD b =
      (r.invert ^^ (if r.mirror then (line.getD (line.length - 1 - i) 0).getLsbD (7 - b)
        else (line.getD i 0).getLsbD b)) := by
  have mirrored : ((if r.mirror then line.reverse.map reverseByte else line).getD i 0).getLsbD b =
      if r.mirror then (line.getD (line.length - 1 - i) 0).getLsbD (7 - b) else (line.getD i 0).getLsbD b := by
    rw [getD_mirrored r.mirror line hi]
    split
    · exact reverseByte_getLsbD _ hb
    · rfl
  have length : i < (if r.mirror then line.reverse.map reverseByte else line).length := by split <;> simpa using hi
  rw [← mirrored, transformLine]
  generalize (if r.mirror then line.reverse.map reverseByte else line) = l at length
  cases r.invert with
  | false => simp
  | true => simp [List.getD_eq_getElem?_getD, length, hb]

theorem Stream.filledSlot_eq (t : Stream) (place : Place) (sector : Nat) : t.filledSlot place sector =
    (t.filled.find? fun x => decide (x.place = place ∧ x.sector = sector)).map Filled.slot := by
  simp only [Stream.filledSlot, Bool.decide_and]

theorem State.pageBytes_length (s : State) (pos len : Nat) : (s.pageBytes pos len).length = len := by
  simp [State.pageBytes]

theorem Memory.readSlot_getD (m : Memory) (slot : Slot) {i : Nat} (hi : i < 1024) :
    (m.readSlot slot).getD i 0 = m.read (slotBase slot + i) := by
  simp [Memory.readSlot, List.getD_eq_getElem?_getD, hi]

/-- A byte of the page is the one its filled slot holds. -/
theorem State.pageBytes_getD {s : State} {pos len i : Nat} {x : Filled} (hi : i < len)
    (hx : s.stream.filled.find? (fun x => decide (x.place = .active ∧ x.sector = (pos + i) / 1024)) = some x) :
    (s.pageBytes pos len).getD i 0 = (s.sram.readSlot x.slot).getD ((pos + i) % 1024) 0 := by
  have slot : s.stream.filledSlot .active ((pos + i) / 1024) = some x.slot := by rw [Stream.filledSlot_eq, hx]; rfl
  rw [Memory.readSlot_getD _ _ (Nat.mod_lt _ (by decide))]
  simp [State.pageBytes, List.getD_eq_getElem?_getD, hi, slot]

theorem Stream.filledSlot_isSome {t : Stream} {place : Place} {sector : Nat} :
    (t.filledSlot place sector).isSome = true ↔ ∃ x ∈ t.filled, x.place = place ∧ x.sector = sector := by
  simp [Stream.filledSlot_eq]

/-- A run of bytes is covered where each byte lies in a filled sector. -/
theorem Stream.covers_iff {t : Stream} {pos len : Nat} (hlen : 0 < len) : t.covers pos len = true ↔
    ∀ i, i < len → ∃ x ∈ t.filled, x.place = .active ∧ x.sector = (pos + i) / 1024 := by
  simp only [Stream.covers, List.all_eq_true, List.mem_range, ← Stream.filledSlot_isSome]
  constructor
  · intro h i hi
    have := h ((pos + i) / 1024 - pos / 1024) (by omega)
    rwa [show pos / 1024 + ((pos + i) / 1024 - pos / 1024) = (pos + i) / 1024 by omega] at this
  · intro h k hk
    have := h (max pos (1024 * (pos / 1024 + k)) - pos) (by omega)
    rwa [show (pos + (max pos (1024 * (pos / 1024 + k)) - pos)) / 1024 = pos / 1024 + k by omega] at this

/-! ### The sectors a line passes by (R173, R174) -/

/-- A filled slot of the active page whose sector a test picks. -/
def Filled.activeIn (pick : Nat → Bool) (x : Filled) : Bool := decide (x.place = .active) && pick x.sector

/-- A stream job of the active page whose sector a test picks. -/
def Job.activeIn (pick : Nat → Bool) (j : Job) : Bool := j.streamOf .active && j.page.any fun q => pick q.2

theorem Filled.activeIn_or (p q : Nat → Bool) (x : Filled) :
    (x.activeIn p || x.activeIn q) = x.activeIn fun k => p k || q k := by
  simp [Filled.activeIn, Bool.and_or_distrib_left]

theorem Job.activeIn_or (p q : Nat → Bool) (j : Job) : (j.activeIn p || j.activeIn q) = j.activeIn fun k => p k || q k := by
  simp only [Job.activeIn, ← Bool.and_or_distrib_left]
  cases j.page <;> rfl

theorem Job.activeIn_all (j : Job) : j.activeIn (fun _ => true) = j.streamOf .active := by
  cases hp : j.page <;> simp [Job.activeIn, Job.streamOf, hp]

/-- The fetch pointer once a read position is reached: where it stands behind, it moves on to the sector of the position,
or off the page (R174). -/
def Stream.fetchPast (p : Page) (pos : Nat) (t : Stream) : Option (Place × Nat) :=
  match t.fetch with
  | some (.active, k) =>
      if wholyBehind pos k then
        if pos / 1024 < p.sectors then some (.active, pos / 1024) else t.fetchPending
      else some (.active, k)
  | other => other

theorem Stream.fetchPast_of_behind {t : Stream} {p : Page} {pos k : Nat} (hf : t.fetch = some (.active, k))
    (hk : wholyBehind pos k = true) :
    t.fetchPast p pos = if pos / 1024 < p.sectors then some (.active, pos / 1024) else t.fetchPending := by
  simp [Stream.fetchPast, hf, hk]

theorem Stream.fetchPast_of_ahead {t : Stream} {p : Page} {pos : Nat}
    (h : ∀ k, t.fetch = some (.active, k) → wholyBehind pos k = false) : t.fetchPast p pos = t.fetch := by
  rcases hf : t.fetch with - | ⟨- | - | -, k⟩
  case some.active => simp [Stream.fetchPast, hf, h k hf]
  all_goals simp [Stream.fetchPast, hf]

/-- Off the active page the pointer is where it would be without the advance. -/
theorem Stream.fetchPast_off (p : Page) (pos : Nat) (t : Stream) :
    { t with fetch := t.fetchPast p pos }.fetchOffActive = t.fetchOffActive := by
  by_cases h : ∃ k, t.fetch = some (.active, k) ∧ wholyBehind pos k = true
  · obtain ⟨k, hf, hk⟩ := h
    rw [Stream.fetchPast_of_behind hf hk]
    split
    · exact (Stream.fetchOffActive_of_active hf).symm
    · rw [← Stream.fetchOffActive_of_active hf]
      exact t.fetchOffActive_twice
  · rw [Stream.fetchPast_of_ahead fun k hf => by simpa using fun hk => h ⟨k, hf, hk⟩]

/-- The read position has moved on, with what lay behind it out of the ring. -/
def State.readPast (pos : Nat) (s : State) : State :=
  ((s.withStream { s.stream with readPos := pos }).freeFilled (Filled.activeIn (wholyBehind pos))).endJobs
    (Job.activeIn (wholyBehind pos)) .cancelled

/-- The fetch pointer follows the read position. -/
def State.moveFetch (p : Page) (pos : Nat) (s : State) : State :=
  s.withStream { s.stream with fetch := s.stream.fetchPast p pos }

theorem State.moveFetch_of_behind {s : State} {p : Page} {pos k : Nat} (hf : s.stream.fetch = some (.active, k))
    (hk : wholyBehind pos k = true) : s.moveFetch p pos = s.withStream { s.stream with
      fetch := if pos / 1024 < p.sectors then some (.active, pos / 1024) else s.stream.fetchPending } := by
  rw [State.moveFetch, Stream.fetchPast_of_behind hf hk]

theorem State.moveFetch_of_ahead {s : State} {p : Page} {pos : Nat}
    (h : ∀ k, s.stream.fetch = some (.active, k) → wholyBehind pos k = false) : s.moveFetch p pos = s := by
  rw [State.moveFetch, Stream.fetchPast_of_ahead h]
  rfl

theorem State.advanceRead_eq {s : State} {p : Page} (h : s.stream.active = some p) :
    s.advanceRead = (s.readPast (s.stream.readPos + p.lineLen)).moveFetch p (s.stream.readPos + p.lineLen) := by
  unfold State.advanceRead
  split
  case h_2 hn => simp [h] at hn
  case h_1 q hq =>
    obtain rfl : p = q := Option.some.inj (h.symm.trans hq)
    dsimp only
    split
    case h_1 k hf =>
      split
      case isTrue hb => exact (State.moveFetch_of_behind (s := s.readPast _) hf hb).symm
      case isFalse hb =>
        refine (State.moveFetch_of_ahead (s := s.readPast _) fun k' hf' => ?_).symm
        obtain rfl : k = k' := by simpa using hf.symm.trans hf'
        simpa using hb
    case h_2 hn => exact (State.moveFetch_of_ahead (s := s.readPast _) fun k hf => absurd hf (hn k)).symm

theorem State.advanceRead_leave {s : State} {p : Page} (hs : StreamOwned s) (h : s.stream.active = some p) :
    SlotsLeave s s.advanceRead (Filled.activeIn (wholyBehind (s.stream.readPos + p.lineLen)))
      (Job.activeIn (wholyBehind (s.stream.readPos + p.lineLen))) ∧
    s.advanceRead.stream = { s.stream with
      readPos := s.stream.readPos + p.lineLen, fetch := s.stream.fetchPast p (s.stream.readPos + p.lineLen)
      filled := s.advanceRead.stream.filled, ringFree := s.advanceRead.stream.ringFree } := by
  rw [State.advanceRead_eq h]
  generalize s.stream.readPos + p.lineLen = pos
  have moved : SlotsLeave s (s.withStream { s.stream with readPos := pos }) (fun _ => false) (fun _ => false) :=
    .of_none rfl rfl rfl ⟨rfl, rfl, rfl, rfl, rfl⟩
  have freed := moved.trans (State.freeFilled_leave (Filled.activeIn (wholyBehind pos)) _) fun _ => rfl
  obtain ⟨ended, stream⟩ := State.endJobs_leave (pick := Job.activeIn (wholyBehind pos)) (freed.owned hs)
    (by simp [State.freeFilled, h]) fun j hj => (Bool.and_eq_true_iff.mp hj).1
  have leaves := (freed.trans ended fun _ => rfl).congr (gone' := Filled.activeIn (wholyBehind pos))
    (ended' := Job.activeIn (wholyBehind pos)) (fun x => by simp) fun j => by simp
  change SlotsLeave s (s.readPast pos) _ _ at leaves
  change (s.readPast pos).stream = _ at stream
  generalize s.readPast pos = u at *
  have fetched : SlotsLeave u (u.moveFetch p pos) (fun _ => false) (fun _ => false) :=
    .of_none rfl rfl (Stream.fetchPast_off p pos _) ⟨rfl, rfl, rfl, rfl, rfl⟩
  refine ⟨(leaves.trans fetched fun _ => rfl).congr (fun x => by simp) (fun j => by simp), ?_⟩
  simp only [State.moveFetch, State.withStream_stream]
  rw [stream]
  rfl

/-! ### One line of the PLAYING page (R172 to R175) -/

/-- A page record with one more line (R172). -/
def Page.withLine (kind : LineKind) (line : List Byte) (p : Page) : Page :=
  { p with
    lines := p.lines + 1, lastLine := some line
    fillLines := p.fillLines + (if kind = .fill then 1 else 0)
    killedLines := p.killedLines + (if kind = .killed then 1 else 0) }

/-- A line has gone to the recorder, and the read position has moved on. -/
def State.lineOut (kind : LineKind) (line : List Byte) (s : State) : State :=
  ((s.emit (.line line)).updatePage .active (Page.withLine kind line)).advanceRead

@[simp] theorem State.lineOut_frame (kind line) (s : State) :
    (s.lineOut kind line).sup = s.sup ∧ (s.lineOut kind line).emitted = s.emitted ++ [.line line] := by
  simp [State.lineOut, State.emit]

theorem State.lineOut_leave {s : State} {p : Page} (hs : StreamOwned s) (h : s.stream.active = some p) (kind : LineKind)
    (line : List Byte) :
    SlotsLeave s (s.lineOut kind line) (Filled.activeIn (wholyBehind (s.stream.readPos + p.lineLen)))
      (Job.activeIn (wholyBehind (s.stream.readPos + p.lineLen))) ∧
    (s.lineOut kind line).stream = { s.stream with
      active := some (p.withLine kind line), readPos := s.stream.readPos + p.lineLen
      fetch := s.stream.fetchPast p (s.stream.readPos + p.lineLen)
      filled := (s.lineOut kind line).stream.filled, ringFree := (s.lineOut kind line).stream.ringFree } := by
  have counted : SlotsLeave s ((s.emit (.line line)).updatePage .active (Page.withLine kind line))
      (fun _ => false) (fun _ => false) := .of_none rfl rfl rfl ⟨rfl, rfl, rfl, rfl, rfl⟩
  have active : ((s.emit (.line line)).updatePage .active (Page.withLine kind line)).stream.active =
      some (p.withLine kind line) := congrArg (Option.map _) h
  obtain ⟨leaves, stream⟩ := State.advanceRead_leave (counted.owned hs) active
  refine ⟨(counted.trans leaves fun _ => rfl).congr (fun _ => rfl) (fun _ => rfl), ?_⟩
  refine stream.trans ?_
  dsimp only
  rw [active]
  rfl

/-- The Nth line ends the page (R175). -/
theorem State.pageLine_eq {s : State} {p : Page} (hs : StreamOwned s) (h : s.stream.active = some p) (kind : LineKind)
    (line : List Byte) : s.pageLine kind line =
      if p.lineCount ≤ p.lines + 1 then (s.lineOut kind line).finishPage else s.lineOut kind line := by
  have active : (s.lineOut kind line).stream.active = some (p.withLine kind line) := by
    rw [(State.lineOut_leave hs h kind line).2]
  unfold State.pageLine
  dsimp only
  split
  case h_1 q hq =>
    obtain rfl : p.withLine kind line = q := Option.some.inj (active.symm.trans hq)
    rfl
  case h_2 hq => cases active.symm.trans hq

/-- A line is about to leave the part: nothing has changed, or the page that the line abandons has left the ring (R173). -/
structure LineBegins (s u : State) (p : Page) (abandoned : Bool) : Prop where
  leaves  : SlotsLeave s u (Filled.activeIn fun _ => abandoned && !p.abandoned)
    (Job.activeIn fun _ => abandoned && !p.abandoned)
  active  : u.stream.active = some { p with abandoned := abandoned }
  readPos : u.stream.readPos = s.stream.readPos
  fetch   : u.stream.fetch = if abandoned && !p.abandoned then s.stream.fetchOffActive else s.stream.fetch
  frame   : u.sup = s.sup ∧ u.emitted = s.emitted

/-- What leaves the ring by the end of the line. -/
theorem LineBegins.passes {s u : State} {p : Page} {abandoned : Bool} (h : LineBegins s u p abandoned) (hs : StreamOwned s)
    (kind : LineKind) (line : List Byte) :
    SlotsLeave s (u.lineOut kind line) (Filled.activeIn (passedBy s p abandoned))
      (Job.activeIn (passedBy s p abandoned)) := by
  have out := (State.lineOut_leave (h.leaves.owned hs) h.active kind line).1
  rw [h.readPos] at out
  exact (h.leaves.trans out fun _ => rfl).congr (Filled.activeIn_or _ _) (Job.activeIn_or _ _)

theorem LineBegins.stream {s u : State} {p : Page} {abandoned : Bool} (h : LineBegins s u p abandoned) (hs : StreamOwned s)
    (kind : LineKind) (line : List Byte) : (u.lineOut kind line).stream = { u.stream with
      active := some (Page.withLine kind line { p with abandoned := abandoned })
      readPos := s.stream.readPos + p.lineLen, fetch := u.stream.fetchPast p (s.stream.readPos + p.lineLen)
      filled := (u.lineOut kind line).stream.filled, ringFree := (u.lineOut kind line).stream.ringFree } := by
  refine (State.lineOut_leave (h.leaves.owned hs) h.active kind line).2.trans ?_
  rw [h.readPos]
  rfl

/-- A line that is not the last. -/
theorem LineBegins.passesSectors {s u : State} {p : Page} {abandoned : Bool} (h : LineBegins s u p abandoned)
    (hs : StreamOwned s) (kind : LineKind) (line : List Byte) :
    PassesSectors s (u.lineOut kind line) p abandoned := by
  have passes := h.passes hs kind line
  obtain ⟨pending, reserved, -⟩ := passes.stream
  obtain ⟨upending, -⟩ := h.leaves.stream
  refine ⟨passes.filled, passes.ids, passes.others, passes.ring, ?fetch, passes.rest.1, reserved, pending⟩
  rw [h.stream hs]
  dsimp only
  have ufetch := h.fetch
  cases hc : abandoned && !p.abandoned with
  | false =>
    have behind (k : Nat) : passedBy s p abandoned k = wholyBehind (s.stream.readPos + p.lineLen) k := by
      rw [passedBy, hc]
      rfl
    have stays : abandoned = false ∨ p.abandoned = true := by simpa [imp_iff_not_or] using hc
    rw [hc, if_neg (by decide)] at ufetch
    rcases hf : s.stream.fetch with - | ⟨- | - | -, k⟩
    all_goals simp [Stream.fetchPast, Stream.fetchPending, ufetch, hf, upending, behind, stays]
  | true =>
    obtain ⟨rfl, hpab⟩ : abandoned = true ∧ p.abandoned = false := by simpa using hc
    have all (k : Nat) : passedBy s p true k = true := by rw [passedBy, hc, Bool.true_or]
    rw [hc, if_pos rfl] at ufetch
    rw [Stream.fetchPast_of_ahead fun k hf => absurd (ufetch ▸ hf) (Stream.fetchOffActive_ne_active _ k), ufetch]
    rcases hf : s.stream.fetch with - | ⟨- | - | -, k⟩
    all_goals simp [Stream.fetchOffActive, Stream.fetchPending, hf, all, hpab]

/-- The last line of the page: what is left of it leaves the ring with it. -/
theorem LineBegins.pageOut_leave {s u : State} {p : Page} {abandoned : Bool} (h : LineBegins s u p abandoned)
    (hs : StreamOwned s) (kind : LineKind) (line : List Byte) :
    SlotsLeave s ((u.lineOut kind line).emit .pageEnd).pageOut (fun x => decide (x.place = .active)) (Job.streamOf .active) ∧
    ((u.lineOut kind line).emit .pageEnd).pageOut.stream.readPos = s.stream.readPos + p.lineLen ∧
    ((u.lineOut kind line).emit .pageEnd).pageOut.stream.pageReady = false ∧
    ((u.lineOut kind line).emit .pageEnd).pageOut.stream.fetch = s.stream.fetchOffActive := by
  have passes := h.passes hs kind line
  have emits : SlotsLeave (u.lineOut kind line) ((u.lineOut kind line).emit .pageEnd) (fun _ => false) (fun _ => false) :=
    .of_none rfl rfl rfl ⟨rfl, rfl, rfl, rfl, rfl⟩
  have ended := passes.trans emits fun _ => rfl
  have active : (u.lineOut kind line).stream.active.isSome = true := by
    rw [h.stream hs]
    rfl
  obtain ⟨leaves, stream⟩ := State.pageOut_leave (ended.owned hs) active
  refine ⟨(ended.trans leaves fun _ => rfl).congr (fun x => ?_) (fun j => ?_), ?_, ?_, ?_⟩
  · cases hx : decide (x.place = .active) <;> simp [Filled.activeIn, hx]
  · cases hj : j.streamOf .active <;> simp [Job.activeIn, hj]
  · rw [stream]
    change (u.lineOut kind line).stream.readPos = _
    rw [h.stream hs]
  · rw [stream]
  · rw [stream]
    exact ended.fetch

/-- No filled slot behind the new read position is left. -/
theorem LineBegins.filled_ahead {s u : State} {p : Page} {abandoned : Bool} (h : LineBegins s u p abandoned)
    (hs : StreamOwned s) (kind : LineKind) (line : List Byte) :
    ∀ x ∈ (u.lineOut kind line).stream.filled, x.place = .active →
      s.stream.readPos + p.lineLen < 1024 * (x.sector + 1) := by
  intro x hx hplace
  rw [(h.passes hs kind line).filled] at hx
  obtain ⟨-, hx⟩ := List.mem_filter.mp hx
  simp only [Filled.activeIn, hplace, passedBy, decide_true, Bool.true_and, Bool.not_eq_true', Bool.or_eq_false_iff,
    decide_eq_false_iff_not] at hx
  omega

/-- What one line of the PLAYING page does, whatever it is made of (R172 to R175). -/
theorem LineBegins.answers {s u : State} {p : Page} {abandoned : Bool} (h : LineBegins s u p abandoned) (hs : StreamOwned s)
    (kind : LineKind) (line : List Byte) :
    AnswersLine s (u.pageLine kind line) p line (if kind = .fill then 1 else 0) (if kind = .killed then 1 else 0) abandoned
      s.conditions := by
  have owned := h.leaves.owned hs
  have stream := h.stream hs kind line
  obtain ⟨usup, uemitted⟩ := h.frame
  have emitted : (u.lineOut kind line).emitted = s.emitted ++ [.line line] := by rw [← uemitted]; simp
  constructor
  case goesOn =>
    intro hl
    rw [State.pageLine_eq owned h.active, if_neg (Nat.not_le.mpr hl)]
    obtain ⟨-, -, link, -⟩ := (h.passes hs kind line).rest
    exact ⟨emitted, congrArg Stream.active stream, congrArg Stream.readPos stream, h.filled_ahead hs kind line,
      h.passesSectors hs kind line, link⟩
  case ends =>
    intro hl
    rw [State.pageLine_eq owned h.active, if_pos hl, State.finishPage_eq (congrArg Stream.active stream)]
    obtain ⟨leaves, readPos, ready, fetch⟩ := h.pageOut_leave hs kind line
    generalize hr : Page.doneRecord _ _ = r
    have ring := leaves.pageLeavesRing fetch r
    obtain ⟨pending, reserved, idleLen, -⟩ := leaves.stream
    obtain ⟨-, -, link, -⟩ := leaves.rest
    obtain ⟨tactive, tpending, tready, -, tsome, tnone⟩ :=
      ((u.lineOut kind line).emit .pageEnd).pageOut.handOver_stream r
    refine ⟨?emitted, ?outbound, tactive.trans pending, tpending, tready.trans ready, ring.jobs, fun q hq => ?some,
      fun hq => ?none, ring.released, fun hq hj => ?kept⟩
    case emitted => simp [State.emit, uemitted]
    case outbound =>
      rw [State.handOver_outbound, link, ← hr]
      rfl
    case some =>
      obtain ⟨hpos, hlen⟩ := tsome q (pending.trans hq)
      obtain ⟨kreserved, kpool, kfilled, -⟩ := ring.kept (.inl (by simp [hq]))
      exact ⟨hpos, hlen, by simpa [hq] using kfilled, kpool, kreserved⟩
    case none =>
      obtain ⟨hpos, hlen⟩ := tnone (pending.trans hq)
      exact ⟨hpos.trans readPos, hlen.trans idleLen⟩
    case kept =>
      obtain ⟨kreserved, kpool, -⟩ := ring.kept (.inr (.inr hj))
      exact ⟨kreserved, kpool⟩
  case rest =>
    rcases Nat.lt_or_ge (p.lines + 1) p.lineCount with hl | hl
    · obtain ⟨-, requests, -, conditions, sram⟩ := (h.passes hs kind line).rest
      rw [State.pageLine_eq owned h.active, if_neg (Nat.not_le.mpr hl)]
      exact ⟨conditions, requests, by simp [usup], sram⟩
    · obtain ⟨-, requests, -, conditions, sram⟩ := (h.pageOut_leave hs kind line).1.rest
      rw [State.pageLine_eq owned h.active, if_pos hl, State.finishPage_eq (congrArg Stream.active stream)]
      simp [requests, conditions, sram, usup]

/-! ### The four answers to a line request (R172, R173, R176) -/

theorem LineBegins.of_no_change {s : State} {p : Page} (h : s.stream.active = some p) : LineBegins s s p p.abandoned := by
  refine ⟨?_, h, rfl, by simp, rfl, rfl⟩
  exact (SlotsLeave.of_none rfl rfl rfl ⟨rfl, rfl, rfl, rfl, rfl⟩).congr (fun x => by simp [Filled.activeIn])
    fun j => by cases hp : j.page <;> simp [Job.activeIn, hp]

/-- Under the ABORT policy the underrun takes the whole page out of the ring (R173). -/
theorem LineBegins.of_abandon {s : State} {p : Page} (hs : StreamOwned s) (h : s.stream.active = some p)
    (hp : p.abandoned = false) : LineBegins s s.abandon p true := by
  have marked : SlotsLeave s (s.updatePage .active fun p => { p with abandoned := true })
      (fun _ => false) (fun _ => false) := .of_none rfl rfl rfl ⟨rfl, rfl, rfl, rfl, rfl⟩
  have active : (s.updatePage .active fun p => { p with abandoned := true }).stream.active =
      some { p with abandoned := true } := congrArg (Option.map _) h
  obtain ⟨leaves, stream⟩ := State.clearPage_leave (marked.owned hs) (by rw [active]; rfl)
  have off := (marked.trans leaves fun _ => rfl).trans (State.fetchOff_leave _) fun _ => rfl
  refine ⟨?leaves, ?active, ?readPos, ?fetch, ?frame⟩
  case leaves =>
    refine off.congr (fun x => ?_) fun j => ?_
    · simp [Filled.activeIn, hp]
    · simpa [hp] using j.activeIn_all.symm
  case active =>
    change (State.clearPage .active _).stream.active = _
    rw [stream]
    exact active
  case readPos =>
    change (State.clearPage .active _).stream.readPos = _
    rw [stream]
    rfl
  case fetch =>
    rw [hp]
    exact leaves.fetch
  case frame => simp

theorem AnswersLine.of_raise {s t : State} {c : Condition} {p : Page} {line : List Byte} {fill killed : Nat}
    {abandoned : Bool} {conditions : List Condition}
    (h : AnswersLine (s.raise c) t p line fill killed abandoned conditions) :
    AnswersLine s t p line fill killed abandoned conditions := by
  obtain ⟨goesOn, ends, rest⟩ := h
  simp only [State.raise_frame] at goesOn ends rest
  refine ⟨fun hl => ?_, ends, rest⟩
  obtain ⟨emitted, active, readPos, ahead, ⟨filled, jobs, others, ring, fetch, kept⟩, link⟩ := goesOn hl
  unfold passedBy at filled jobs others ring fetch
  simp only [State.raise_frame] at filled jobs others ring fetch kept
  exact ⟨emitted, active, readPos, ahead, ⟨filled, jobs, others, ring, fetch, kept⟩, link⟩

theorem State.playLine_killed {s : State} (p : Page) (h : s.cfg.killMode = .level ∧ s.stream.killLevel = true) :
    s.playLine p = s.pageLine .killed (blankLine p.lineLen) := by
  rw [State.playLine, if_pos h]

theorem State.playLine_abandoned {s : State} {p : Page} (h : ¬(s.cfg.killMode = .level ∧ s.stream.killLevel = true))
    (hp : p.abandoned = true) : s.playLine p = s.pageLine .fill (blankLine p.lineLen) := by
  rw [State.playLine, if_neg h, if_pos hp]

theorem State.playLine_data {s : State} {p : Page} (h : ¬(s.cfg.killMode = .level ∧ s.stream.killLevel = true))
    (hp : p.abandoned = false) (hd : s.stream.covers s.stream.readPos p.lineLen = true) :
    s.playLine p = s.pageLine .data (transformLine s.stream.inForce (s.pageBytes s.stream.readPos p.lineLen)) := by
  rw [State.playLine, if_neg h, if_neg (by simp [hp]), if_pos hd]

/-- What an underrun is before its fill line: UNDERRUN, and under the ABORT policy the page abandoned (R173). -/
def State.underran (s : State) : State :=
  if s.stream.inForce.fill = .abort then (s.raise .underrun).abandon else s.raise .underrun

theorem State.playLine_underrun {s : State} {p : Page} (h : ¬(s.cfg.killMode = .level ∧ s.stream.killLevel = true))
    (hp : p.abandoned = false) (hd : ¬s.stream.covers s.stream.readPos p.lineLen = true) :
    s.playLine p = s.underran.pageLine .fill (fillLine s.stream.inForce.fill p) := by
  rw [State.playLine, if_neg h, if_neg (by simp [hp]), if_neg hd]
  simp [State.underran]

/-- An underrun is answered by the fill line of the policy (R173). -/
theorem State.underrun_answers {s : State} {p : Page} (hs : StreamOwned s) (h : s.stream.active = some p)
    (hp : p.abandoned = false) (line : List Byte) :
    AnswersLine s (s.underran.pageLine .fill line) p line 1 0 (decide (s.stream.inForce.fill = .abort))
      (s.raise .underrun).conditions := by
  have owned : StreamOwned (s.raise .underrun) := ⟨by simpa using hs.ids, by simpa using hs.owner⟩
  have active : (s.raise .underrun).stream.active = some p := by simpa using h
  by_cases hf : s.stream.inForce.fill = .abort
  · rw [State.underran, if_pos hf, decide_eq_true hf]
    exact ((LineBegins.of_abandon owned active hp).answers owned .fill line).of_raise
  · rw [State.underran, if_neg hf, decide_eq_false hf, ← hp]
    exact ((LineBegins.of_no_change active).answers owned .fill line).of_raise

theorem State.lineRequest_of_none {s : State} (h : s.stream.active = none) :
    s.lineRequest = s.emit (.line (blankLine s.stream.idleLen)) := by
  unfold State.lineRequest
  split
  case h_1 hq => simp [h] at hq
  case h_2 => rfl

/-- A WAITING page answers with an idle line, and its start is to be tested (R170, R171). -/
theorem State.lineRequest_of_page {s : State} {p : Page} (h : s.stream.active = some p) :
    s.lineRequest = if p.started then s.playLine p else
      (s.emit (.line (blankLine s.stream.idleLen))).withStream { s.stream with startTest := true } := by
  unfold State.lineRequest
  split
  case h_1 q hq =>
    obtain rfl : p = q := Option.some.inj (h.symm.trans hq)
    rfl
  case h_2 hq => simp [h] at hq

/-- Settles O59: the four answers are one line each, told apart by the line's kind and bytes; the bytes of a data line are
those of its slots. -/
theorem lineRequestsAreAlwaysAnswered : Obligations.LineRequestsAreAlwaysAnswered := by
  refine ⟨fun s hs => ?requests, fun r line => ⟨transformLine_length r line, fun i b => transformLine_bit r line⟩,
    fun s pos len => ⟨s.pageBytes_length pos len, fun i x => State.pageBytes_getD, Stream.covers_iff⟩⟩
  have requested : exec .lineRequest s = .next s.lineRequest := onEvent_of_quiet hs State.lineRequest
  refine ⟨fun ha => ?absent, fun p ha hp => ?waiting, fun p ha hp => ?playing⟩
  case absent =>
    rw [requested, State.lineRequest_of_none ha]
    rfl
  case waiting =>
    rw [requested, State.lineRequest_of_page ha, hp]
    rfl
  case playing =>
    intro killed data fill answers hn ho
    have plays : exec .lineRequest s = .next (s.playLine p) := by
      rw [requested, State.lineRequest_of_page ha, if_pos hp]
    have owned : StreamOwned s := ⟨hn, fun j hj hk => (ho j hj hk).1⟩
    have begins := LineBegins.of_no_change ha
    refine ⟨fun hk => ?_, fun hk hab => ?_, fun hk hab hd => ?_, fun hk hab hd => ?_⟩
    · exact ⟨_, plays, State.playLine_killed p hk ▸ begins.answers owned .killed _⟩
    · exact ⟨_, plays, State.playLine_abandoned hk hab ▸ hab ▸ begins.answers owned .fill _⟩
    · exact ⟨_, plays, State.playLine_data hk hab hd ▸ hab ▸ begins.answers owned .data _⟩
    · have policy : fill = fillLine s.stream.inForce.fill p := by
        simp only [fill, fillLine]
        cases s.stream.inForce.fill <;> rfl
      rw [policy]
      exact ⟨_, plays, State.playLine_underrun hk hab hd ▸ State.underrun_answers owned ha hab _⟩

end Sys2Proof.Machine
